-- ==== Sys2Proof/Word.lean ====
section
/-! DEFINITION. The two word types of the block (00_scope.md R6, R9). -/

namespace Sys2Proof

/-- `u8`: a byte register, a flag byte, a table entry. -/
abbrev Byte := BitVec 8

/-- `u16`: a pair, `SP`, an opcode, an immediate. -/
abbrev Word := BitVec 16

end Sys2Proof
end

