-- ==== Sys2Proof/Syntax.lean ====
section
/-! DEFINITION. The instruction set as syntax: operand names, the presented pair, and one constructor per row of
spec/opcode_table.json. -/

namespace Sys2Proof

/-- The 8-bit operand set `Reg7` (10_state.md R14): `F` is never an operand. -/
inductive Reg7 where
  | a | b | c | d | e | h | l
  deriving DecidableEq, Repr

/-- The 16-bit operand set `Pair` (10_state.md R15). -/
inductive Pair where
  | bc | de | hl | sp
  deriving DecidableEq, Repr

/-- What the host presents to the block for one execute (30_encoding.md R40): every instruction is one such pair. -/
structure Presented where
  opcode : Word
  imm : Word
  deriving DecidableEq, Repr

/-- The 386 instructions (30_encoding.md R45), one constructor per row of spec/opcode_table.json. The order
is that of the opcodes under the default `SLL_REG_MAP`, but for family 14, which stands beside family 2 because Lean's
compiler wants constructors with arguments early. Only the two immediate families carry an operand the opcode does not fix (R42). -/
inductive Instr where
  -- family 1, the load matrix (R73)
  | ldAA
  | ldAB
  | ldAC
  | ldAD
  | ldAE
  | ldAH
  | ldAL
  | ldBA
  | ldBB
  | ldBC
  | ldBD
  | ldBE
  | ldBH
  | ldBL
  | ldCA
  | ldCB
  | ldCC
  | ldCD
  | ldCE
  | ldCH
  | ldCL
  | ldDA
  | ldDB
  | ldDC
  | ldDD
  | ldDE
  | ldDH
  | ldDL
  | ldEA
  | ldEB
  | ldEC
  | ldED
  | ldEE
  | ldEH
  | ldEL
  | ldHA
  | ldHB
  | ldHC
  | ldHD
  | ldHE
  | ldHH
  | ldHL
  | ldLA
  | ldLB
  | ldLC
  | ldLD
  | ldLE
  | ldLH
  | ldLL
  -- family 2, the immediate loads (R74)
  | ldAImm (n : Byte)
  | ldBImm (n : Byte)
  | ldCImm (n : Byte)
  | ldDImm (n : Byte)
  | ldEImm (n : Byte)
  | ldHImm (n : Byte)
  | ldLImm (n : Byte)
  -- family 14, the pair immediate loads (R111)
  | ldBcImm (nn : Word)
  | ldDeImm (nn : Word)
  | ldHlImm (nn : Word)
  | ldSpImm (nn : Word)
  -- family 3, the ALU operations (R75 to R82)
  | addAA
  | addAB
  | addAC
  | addAD
  | addAE
  | addAH
  | addAL
  | adcAA
  | adcAB
  | adcAC
  | adcAD
  | adcAE
  | adcAH
  | adcAL
  | subA
  | subB
  | subC
  | subD
  | subE
  | subH
  | subL
  | sbcAA
  | sbcAB
  | sbcAC
  | sbcAD
  | sbcAE
  | sbcAH
  | sbcAL
  | andA
  | andB
  | andC
  | andD
  | andE
  | andH
  | andL
  | xorA
  | xorB
  | xorC
  | xorD
  | xorE
  | xorH
  | xorL
  | orA
  | orB
  | orC
  | orD
  | orE
  | orH
  | orL
  | cpA
  | cpB
  | cpC
  | cpD
  | cpE
  | cpH
  | cpL
  -- family 4, 8-bit increment (R83)
  | incB
  | incC
  | incD
  | incE
  | incH
  | incL
  | incA
  -- family 5, 8-bit decrement (R84)
  | decB
  | decC
  | decD
  | decE
  | decH
  | decL
  | decA
  -- family 6, the single-byte miscellaneous operations (R85 to R94)
  | rlca
  | rrca
  | rla
  | rra
  | daa
  | cpl
  | scf
  | ccf
  | neg
  | nop
  -- family 7, the CB rotates and shifts (R95 to R101)
  | rlcB
  | rlcC
  | rlcD
  | rlcE
  | rlcH
  | rlcL
  | rlcA
  | rrcB
  | rrcC
  | rrcD
  | rrcE
  | rrcH
  | rrcL
  | rrcA
  | rlB
  | rlC
  | rlD
  | rlE
  | rlH
  | rlL
  | rlA
  | rrB
  | rrC
  | rrD
  | rrE
  | rrH
  | rrL
  | rrA
  | slaB
  | slaC
  | slaD
  | slaE
  | slaH
  | slaL
  | slaA
  | sraB
  | sraC
  | sraD
  | sraE
  | sraH
  | sraL
  | sraA
  | srlB
  | srlC
  | srlD
  | srlE
  | srlH
  | srlL
  | srlA
  -- family 8, the SLL extension (R102)
  | sllC
  | sllD
  | sllE
  | sllH
  | sllL
  | sllA
  | sllB
  -- family 9, BIT, RES and SET (R103 to R105)
  | bit0B
  | bit0C
  | bit0D
  | bit0E
  | bit0H
  | bit0L
  | bit0A
  | bit1B
  | bit1C
  | bit1D
  | bit1E
  | bit1H
  | bit1L
  | bit1A
  | bit2B
  | bit2C
  | bit2D
  | bit2E
  | bit2H
  | bit2L
  | bit2A
  | bit3B
  | bit3C
  | bit3D
  | bit3E
  | bit3H
  | bit3L
  | bit3A
  | bit4B
  | bit4C
  | bit4D
  | bit4E
  | bit4H
  | bit4L
  | bit4A
  | bit5B
  | bit5C
  | bit5D
  | bit5E
  | bit5H
  | bit5L
  | bit5A
  | bit6B
  | bit6C
  | bit6D
  | bit6E
  | bit6H
  | bit6L
  | bit6A
  | bit7B
  | bit7C
  | bit7D
  | bit7E
  | bit7H
  | bit7L
  | bit7A
  | res0B
  | res0C
  | res0D
  | res0E
  | res0H
  | res0L
  | res0A
  | res1B
  | res1C
  | res1D
  | res1E
  | res1H
  | res1L
  | res1A
  | res2B
  | res2C
  | res2D
  | res2E
  | res2H
  | res2L
  | res2A
  | res3B
  | res3C
  | res3D
  | res3E
  | res3H
  | res3L
  | res3A
  | res4B
  | res4C
  | res4D
  | res4E
  | res4H
  | res4L
  | res4A
  | res5B
  | res5C
  | res5D
  | res5E
  | res5H
  | res5L
  | res5A
  | res6B
  | res6C
  | res6D
  | res6E
  | res6H
  | res6L
  | res6A
  | res7B
  | res7C
  | res7D
  | res7E
  | res7H
  | res7L
  | res7A
  | set0B
  | set0C
  | set0D
  | set0E
  | set0H
  | set0L
  | set0A
  | set1B
  | set1C
  | set1D
  | set1E
  | set1H
  | set1L
  | set1A
  | set2B
  | set2C
  | set2D
  | set2E
  | set2H
  | set2L
  | set2A
  | set3B
  | set3C
  | set3D
  | set3E
  | set3H
  | set3L
  | set3A
  | set4B
  | set4C
  | set4D
  | set4E
  | set4H
  | set4L
  | set4A
  | set5B
  | set5C
  | set5D
  | set5E
  | set5H
  | set5L
  | set5A
  | set6B
  | set6C
  | set6D
  | set6E
  | set6H
  | set6L
  | set6A
  | set7B
  | set7C
  | set7D
  | set7E
  | set7H
  | set7L
  | set7A
  -- family 10, pair increment and decrement (R106, R107)
  | incBc
  | incDe
  | incHl
  | incSp
  | decBc
  | decDe
  | decHl
  | decSp
  -- family 11, ADD HL,p (R108)
  | addHlBc
  | addHlDe
  | addHlHl
  | addHlSp
  -- family 12, EX DE,HL (R109)
  | exDeHl
  -- family 13, LD SP,HL (R110)
  | ldSpHl
  -- family 15, ADC HL,p and SBC HL,p (R112, R113)
  | adcHlBc
  | adcHlDe
  | adcHlHl
  | adcHlSp
  | sbcHlBc
  | sbcHlDe
  | sbcHlHl
  | sbcHlSp
  deriving DecidableEq, Repr

end Sys2Proof
end

