-- ==== Sys2Proof/Config.lean ====
section
/-! DEFINITION. What an implementation fixes: the size of the opcode range and the OPEN parameters of 00_scope.md R8,
as plain data. `SEEDS`, the third of them, is host-side and an argument of `fingerprint` (Machine/HostSide.lean). -/

namespace Sys2Proof

/-- `NUM_OPCODES` (00_scope.md R7). -/
def numOpcodes : Nat := 386

/-- `OOR_POLICY` (60_exceptions.md R117): what an out-of-range opcode does. -/
inductive OorPolicy where
  /-- The opcode raises `IllegalOpcode` (R115). -/
  | fault
  /-- The opcode changes nothing (R117). -/
  | inert
  deriving DecidableEq, Repr

/-- The parameters a model takes as arguments (00_scope.md R8). -/
structure Params where
  /-- `SLL_REG_MAP` (30_encoding.md R47): the register of each of the seven SLL opcodes. -/
  sllRegMap : Vector Reg7 7
  oorPolicy : OorPolicy
  deriving DecidableEq, Repr

/-- The spec's defaults: `i -> ORD_R[(i + 1) mod 7]` (R47) and `fault` (R117). -/
def Params.default : Params where
  sllRegMap := #v[.c, .d, .e, .h, .l, .a, .b]
  oorPolicy := .fault

end Sys2Proof
end

