-- ==== Sys2Proof/WellFormed.lean ====
section
/-! DEFINITION. The checks that the types of the syntax do not make. -/

namespace Sys2Proof

/-- The host's contract on an opcode (60_exceptions.md R121): below `NUM_OPCODES`. -/
def Presented.wellFormed (x : Presented) : Bool := decide (x.opcode.toNat < numOpcodes)

/-- `SLL_REG_MAP` names every register of `Reg7` (30_encoding.md R47); on seven positions each then occurs exactly
once. -/
def Params.wellFormed (p : Params) : Bool :=
  [Reg7.a, .b, .c, .d, .e, .h, .l].all fun r => p.sllRegMap.toList.contains r

/-- The register an instruction takes from `SLL_REG_MAP` (30_encoding.md R47); only family 8 has one. -/
def Instr.sllRegister : Instr → Option Reg7
  | .sllA => some .a
  | .sllB => some .b
  | .sllC => some .c
  | .sllD => some .d
  | .sllE => some .e
  | .sllH => some .h
  | .sllL => some .l
  | _ => none

/-- An instruction is well-formed under `p` when `p` gives it an opcode: `SLL r` needs `r` in `SLL_REG_MAP` (R47), and
every other instruction has one opcode whatever the parameters (R41). -/
def Instr.wellFormed (p : Params) (i : Instr) : Bool :=
  match i.sllRegister with
  | some r => p.sllRegMap.toList.contains r
  | none => true

end Sys2Proof
end

