-- ==== Sys2Proof/Decode.lean ====
section
/-! DEFINITION. Encoding and dispatch (30_encoding.md): the operand orderings, the constructor tables, the dispatcher of
R49 (total: an opcode outside the valid range is rejected by name), and after it the encoder. -/

namespace Sys2Proof

/-! ### Operand orderings (R46) and their inverses -/

/-- `ORD_A`, used by families 1, 2 and 3 (R46). -/
def ordA : Vector Reg7 7 := #v[.a, .b, .c, .d, .e, .h, .l]

/-- `ORD_R`, used by families 4, 5, 7 and 9 (R46). -/
def ordR : Vector Reg7 7 := #v[.b, .c, .d, .e, .h, .l, .a]

/-- `ORD_P`, used by families 10, 11, 14 and 15 (R46). -/
def ordP : Vector Pair 4 := #v[.bc, .de, .hl, .sp]

/-- `idx_A` of R48: the position of a register in `ORD_A`. -/
def idxA : Reg7 → Nat
  | .a => 0 | .b => 1 | .c => 2 | .d => 3 | .e => 4 | .h => 5 | .l => 6

/-- `idx_R` of R48: the position of a register in `ORD_R`. -/
def idxR : Reg7 → Nat
  | .b => 0 | .c => 1 | .d => 2 | .e => 3 | .h => 4 | .l => 5 | .a => 6

/-- `idx_P` of R48: the position of a pair in `ORD_P`. -/
def idxP : Pair → Nat
  | .bc => 0 | .de => 1 | .hl => 2 | .sp => 3

/-! ### The constructor an operation and its operands name -/

/-- `LD d,s` (R73). -/
def ldOf (dst src : Reg7) : Instr :=
  match dst, src with
  | .a, .a => .ldAA
  | .a, .b => .ldAB
  | .a, .c => .ldAC
  | .a, .d => .ldAD
  | .a, .e => .ldAE
  | .a, .h => .ldAH
  | .a, .l => .ldAL
  | .b, .a => .ldBA
  | .b, .b => .ldBB
  | .b, .c => .ldBC
  | .b, .d => .ldBD
  | .b, .e => .ldBE
  | .b, .h => .ldBH
  | .b, .l => .ldBL
  | .c, .a => .ldCA
  | .c, .b => .ldCB
  | .c, .c => .ldCC
  | .c, .d => .ldCD
  | .c, .e => .ldCE
  | .c, .h => .ldCH
  | .c, .l => .ldCL
  | .d, .a => .ldDA
  | .d, .b => .ldDB
  | .d, .c => .ldDC
  | .d, .d => .ldDD
  | .d, .e => .ldDE
  | .d, .h => .ldDH
  | .d, .l => .ldDL
  | .e, .a => .ldEA
  | .e, .b => .ldEB
  | .e, .c => .ldEC
  | .e, .d => .ldED
  | .e, .e => .ldEE
  | .e, .h => .ldEH
  | .e, .l => .ldEL
  | .h, .a => .ldHA
  | .h, .b => .ldHB
  | .h, .c => .ldHC
  | .h, .d => .ldHD
  | .h, .e => .ldHE
  | .h, .h => .ldHH
  | .h, .l => .ldHL
  | .l, .a => .ldLA
  | .l, .b => .ldLB
  | .l, .c => .ldLC
  | .l, .d => .ldLD
  | .l, .e => .ldLE
  | .l, .h => .ldLH
  | .l, .l => .ldLL

/-- `LD d,n` (R74). -/
def ldImmOf (dst : Reg7) (n : Byte) : Instr :=
  match dst with
  | .a => .ldAImm n
  | .b => .ldBImm n
  | .c => .ldCImm n
  | .d => .ldDImm n
  | .e => .ldEImm n
  | .h => .ldHImm n
  | .l => .ldLImm n

/-- `ADD A,s` (R75). -/
def addOf (s : Reg7) : Instr :=
  match s with
  | .a => .addAA
  | .b => .addAB
  | .c => .addAC
  | .d => .addAD
  | .e => .addAE
  | .h => .addAH
  | .l => .addAL

/-- `ADC A,s` (R76). -/
def adcOf (s : Reg7) : Instr :=
  match s with
  | .a => .adcAA
  | .b => .adcAB
  | .c => .adcAC
  | .d => .adcAD
  | .e => .adcAE
  | .h => .adcAH
  | .l => .adcAL

/-- `SUB s` (R77). -/
def subOf (s : Reg7) : Instr :=
  match s with
  | .a => .subA
  | .b => .subB
  | .c => .subC
  | .d => .subD
  | .e => .subE
  | .h => .subH
  | .l => .subL

/-- `SBC A,s` (R78). -/
def sbcOf (s : Reg7) : Instr :=
  match s with
  | .a => .sbcAA
  | .b => .sbcAB
  | .c => .sbcAC
  | .d => .sbcAD
  | .e => .sbcAE
  | .h => .sbcAH
  | .l => .sbcAL

/-- `AND s` (R79). -/
def andOf (s : Reg7) : Instr :=
  match s with
  | .a => .andA
  | .b => .andB
  | .c => .andC
  | .d => .andD
  | .e => .andE
  | .h => .andH
  | .l => .andL

/-- `XOR s` (R80). -/
def xorOf (s : Reg7) : Instr :=
  match s with
  | .a => .xorA
  | .b => .xorB
  | .c => .xorC
  | .d => .xorD
  | .e => .xorE
  | .h => .xorH
  | .l => .xorL

/-- `OR s` (R81). -/
def orOf (s : Reg7) : Instr :=
  match s with
  | .a => .orA
  | .b => .orB
  | .c => .orC
  | .d => .orD
  | .e => .orE
  | .h => .orH
  | .l => .orL

/-- `CP s` (R82). -/
def cpOf (s : Reg7) : Instr :=
  match s with
  | .a => .cpA
  | .b => .cpB
  | .c => .cpC
  | .d => .cpD
  | .e => .cpE
  | .h => .cpH
  | .l => .cpL

/-- `INC r` (R83). -/
def incOf (r : Reg7) : Instr :=
  match r with
  | .b => .incB
  | .c => .incC
  | .d => .incD
  | .e => .incE
  | .h => .incH
  | .l => .incL
  | .a => .incA

/-- `DEC r` (R84). -/
def decOf (r : Reg7) : Instr :=
  match r with
  | .b => .decB
  | .c => .decC
  | .d => .decD
  | .e => .decE
  | .h => .decH
  | .l => .decL
  | .a => .decA

/-- `RLC r` (R95). -/
def rlcOf (r : Reg7) : Instr :=
  match r with
  | .b => .rlcB
  | .c => .rlcC
  | .d => .rlcD
  | .e => .rlcE
  | .h => .rlcH
  | .l => .rlcL
  | .a => .rlcA

/-- `RRC r` (R96). -/
def rrcOf (r : Reg7) : Instr :=
  match r with
  | .b => .rrcB
  | .c => .rrcC
  | .d => .rrcD
  | .e => .rrcE
  | .h => .rrcH
  | .l => .rrcL
  | .a => .rrcA

/-- `RL r` (R97). -/
def rlOf (r : Reg7) : Instr :=
  match r with
  | .b => .rlB
  | .c => .rlC
  | .d => .rlD
  | .e => .rlE
  | .h => .rlH
  | .l => .rlL
  | .a => .rlA

/-- `RR r` (R98). -/
def rrOf (r : Reg7) : Instr :=
  match r with
  | .b => .rrB
  | .c => .rrC
  | .d => .rrD
  | .e => .rrE
  | .h => .rrH
  | .l => .rrL
  | .a => .rrA

/-- `SLA r` (R99). -/
def slaOf (r : Reg7) : Instr :=
  match r with
  | .b => .slaB
  | .c => .slaC
  | .d => .slaD
  | .e => .slaE
  | .h => .slaH
  | .l => .slaL
  | .a => .slaA

/-- `SRA r` (R100). -/
def sraOf (r : Reg7) : Instr :=
  match r with
  | .b => .sraB
  | .c => .sraC
  | .d => .sraD
  | .e => .sraE
  | .h => .sraH
  | .l => .sraL
  | .a => .sraA

/-- `SRL r` (R101). -/
def srlOf (r : Reg7) : Instr :=
  match r with
  | .b => .srlB
  | .c => .srlC
  | .d => .srlD
  | .e => .srlE
  | .h => .srlH
  | .l => .srlL
  | .a => .srlA

/-- `SLL r` (R102). -/
def sllOf (r : Reg7) : Instr :=
  match r with
  | .b => .sllB
  | .c => .sllC
  | .d => .sllD
  | .e => .sllE
  | .h => .sllH
  | .l => .sllL
  | .a => .sllA

/-- `BIT b,r` (R103). -/
def bitOf (b : Fin 8) (r : Reg7) : Instr :=
  match r with
  | .b => #v[Instr.bit0B, .bit1B, .bit2B, .bit3B, .bit4B, .bit5B, .bit6B, .bit7B].get b
  | .c => #v[Instr.bit0C, .bit1C, .bit2C, .bit3C, .bit4C, .bit5C, .bit6C, .bit7C].get b
  | .d => #v[Instr.bit0D, .bit1D, .bit2D, .bit3D, .bit4D, .bit5D, .bit6D, .bit7D].get b
  | .e => #v[Instr.bit0E, .bit1E, .bit2E, .bit3E, .bit4E, .bit5E, .bit6E, .bit7E].get b
  | .h => #v[Instr.bit0H, .bit1H, .bit2H, .bit3H, .bit4H, .bit5H, .bit6H, .bit7H].get b
  | .l => #v[Instr.bit0L, .bit1L, .bit2L, .bit3L, .bit4L, .bit5L, .bit6L, .bit7L].get b
  | .a => #v[Instr.bit0A, .bit1A, .bit2A, .bit3A, .bit4A, .bit5A, .bit6A, .bit7A].get b

/-- `RES b,r` (R104). -/
def resOf (b : Fin 8) (r : Reg7) : Instr :=
  match r with
  | .b => #v[Instr.res0B, .res1B, .res2B, .res3B, .res4B, .res5B, .res6B, .res7B].get b
  | .c => #v[Instr.res0C, .res1C, .res2C, .res3C, .res4C, .res5C, .res6C, .res7C].get b
  | .d => #v[Instr.res0D, .res1D, .res2D, .res3D, .res4D, .res5D, .res6D, .res7D].get b
  | .e => #v[Instr.res0E, .res1E, .res2E, .res3E, .res4E, .res5E, .res6E, .res7E].get b
  | .h => #v[Instr.res0H, .res1H, .res2H, .res3H, .res4H, .res5H, .res6H, .res7H].get b
  | .l => #v[Instr.res0L, .res1L, .res2L, .res3L, .res4L, .res5L, .res6L, .res7L].get b
  | .a => #v[Instr.res0A, .res1A, .res2A, .res3A, .res4A, .res5A, .res6A, .res7A].get b

/-- `SET b,r` (R105). -/
def setOf (b : Fin 8) (r : Reg7) : Instr :=
  match r with
  | .b => #v[Instr.set0B, .set1B, .set2B, .set3B, .set4B, .set5B, .set6B, .set7B].get b
  | .c => #v[Instr.set0C, .set1C, .set2C, .set3C, .set4C, .set5C, .set6C, .set7C].get b
  | .d => #v[Instr.set0D, .set1D, .set2D, .set3D, .set4D, .set5D, .set6D, .set7D].get b
  | .e => #v[Instr.set0E, .set1E, .set2E, .set3E, .set4E, .set5E, .set6E, .set7E].get b
  | .h => #v[Instr.set0H, .set1H, .set2H, .set3H, .set4H, .set5H, .set6H, .set7H].get b
  | .l => #v[Instr.set0L, .set1L, .set2L, .set3L, .set4L, .set5L, .set6L, .set7L].get b
  | .a => #v[Instr.set0A, .set1A, .set2A, .set3A, .set4A, .set5A, .set6A, .set7A].get b

/-- `INC p` (R106). -/
def incPairOf (p : Pair) : Instr :=
  match p with
  | .bc => .incBc
  | .de => .incDe
  | .hl => .incHl
  | .sp => .incSp

/-- `DEC p` (R107). -/
def decPairOf (p : Pair) : Instr :=
  match p with
  | .bc => .decBc
  | .de => .decDe
  | .hl => .decHl
  | .sp => .decSp

/-- `ADD HL,p` (R108). -/
def addHlOf (p : Pair) : Instr :=
  match p with
  | .bc => .addHlBc
  | .de => .addHlDe
  | .hl => .addHlHl
  | .sp => .addHlSp

/-- `ADC HL,p` (R112). -/
def adcHlOf (p : Pair) : Instr :=
  match p with
  | .bc => .adcHlBc
  | .de => .adcHlDe
  | .hl => .adcHlHl
  | .sp => .adcHlSp

/-- `SBC HL,p` (R113). -/
def sbcHlOf (p : Pair) : Instr :=
  match p with
  | .bc => .sbcHlBc
  | .de => .sbcHlDe
  | .hl => .sbcHlHl
  | .sp => .sbcHlSp

/-- `LD p,nn` (R111). -/
def ldPairImmOf (p : Pair) (nn : Word) : Instr :=
  match p with
  | .bc => .ldBcImm nn
  | .de => .ldDeImm nn
  | .hl => .ldHlImm nn
  | .sp => .ldSpImm nn

/-! ### The operation tables of R48 -/

/-- `ALU_OPS` (R48). -/
def aluOps : Vector (Reg7 → Instr) 8 := #v[addOf, adcOf, subOf, sbcOf, andOf, xorOf, orOf, cpOf]

/-- `MISC_OPS` (R48). -/
def miscOps : Vector Instr 10 := #v[.rlca, .rrca, .rla, .rra, .daa, .cpl, .scf, .ccf, .neg, .nop]

/-- `ROT_OPS` (R48). -/
def rotOps : Vector (Reg7 → Instr) 7 := #v[rlcOf, rrcOf, rlOf, rrOf, slaOf, sraOf, srlOf]

/-- `BIT_OPS` (R48). -/
def bitOps : Vector (Fin 8 → Reg7 → Instr) 3 := #v[bitOf, resOf, setOf]

/-- Family 10's two operations, four opcodes each (R48). -/
def incDecOps : Vector (Pair → Instr) 2 := #v[incPairOf, decPairOf]

/-- Family 15's two operations, four opcodes each (R48). -/
def adcSbcOps : Vector (Pair → Instr) 2 := #v[adcHlOf, sbcHlOf]

/-! ### Immediates -/

/-- `n = imm[7:0]` (R43); `imm[15:8]` is ignored. -/
def immByte (imm : Word) : Byte := imm.extractLsb' 0 8

/-- `nn = imm[15:0]` (R44). -/
def immWord (imm : Word) : Word := imm

/-! ### The dispatcher -/

/-- What the dispatcher makes of a presented pair: an instruction, or the opcode that no family holds (R53). -/
inductive Decoded where
  | instr (i : Instr)
  | illegalOpcode (opcode : Word)
  deriving DecidableEq, Repr

/-! #### Operand decode inside each family (R48); `i` is the offset of the opcode in its family -/

/-- Family 1. -/
def loadAt (i : Nat) : Instr := ldOf (ordA.get (Fin.ofNat 7 (i / 7))) (ordA.get (Fin.ofNat 7 i))

/-- Family 2. -/
def loadImmAt (i : Nat) (imm : Word) : Instr := ldImmOf (ordA.get (Fin.ofNat 7 i)) (immByte imm)

/-- Family 3. -/
def aluAt (i : Nat) : Instr := aluOps.get (Fin.ofNat 8 (i / 7)) (ordA.get (Fin.ofNat 7 i))

/-- Family 4. -/
def incAt (i : Nat) : Instr := incOf (ordR.get (Fin.ofNat 7 i))

/-- Family 5. -/
def decAt (i : Nat) : Instr := decOf (ordR.get (Fin.ofNat 7 i))

/-- Family 6. -/
def miscAt (i : Nat) : Instr := miscOps.get (Fin.ofNat 10 i)

/-- Family 7. -/
def rotAt (i : Nat) : Instr := rotOps.get (Fin.ofNat 7 (i / 7)) (ordR.get (Fin.ofNat 7 i))

/-- Family 8: the register is `SLL_REG_MAP(i)` (R47). -/
def sllAt (p : Params) (i : Nat) : Instr := sllOf (p.sllRegMap.get (Fin.ofNat 7 i))

/-- Family 9. -/
def bitopAt (i : Nat) : Instr :=
  bitOps.get (Fin.ofNat 3 (i / 56)) (Fin.ofNat 8 (i % 56 / 7)) (ordR.get (Fin.ofNat 7 i))

/-- Family 10. -/
def incDecPairAt (i : Nat) : Instr := incDecOps.get (Fin.ofNat 2 (i / 4)) (ordP.get (Fin.ofNat 4 i))

/-- Family 11. -/
def addHlAt (i : Nat) : Instr := addHlOf (ordP.get (Fin.ofNat 4 i))

/-- Family 14. -/
def loadPairImmAt (i : Nat) (imm : Word) : Instr := ldPairImmOf (ordP.get (Fin.ofNat 4 i)) (immWord imm)

/-- Family 15. -/
def adcSbcHlAt (i : Nat) : Instr := adcSbcOps.get (Fin.ofNat 2 (i / 4)) (ordP.get (Fin.ofNat 4 i))

/-- The one-shot range classifier of R49: ascending tests against the families' upper bounds. `p` supplies
`SLL_REG_MAP` (R47). -/
def dispatch (p : Params) (o : Nat) (imm : Word) : Option Instr :=
  if o < 49 then some (loadAt o)
  else if o < 56 then some (loadImmAt (o - 49) imm)
  else if o < 112 then some (aluAt (o - 56))
  else if o < 119 then some (incAt (o - 112))
  else if o < 126 then some (decAt (o - 119))
  else if o < 136 then some (miscAt (o - 126))
  else if o < 185 then some (rotAt (o - 136))
  else if o < 192 then some (sllAt p (o - 185))
  else if o < 360 then some (bitopAt (o - 192))
  else if o < 368 then some (incDecPairAt (o - 360))
  else if o < 372 then some (addHlAt (o - 368))
  else if o < 373 then some .exDeHl
  else if o < 374 then some .ldSpHl
  else if o < 378 then some (loadPairImmAt (o - 374) imm)
  else if o < 386 then some (adcSbcHlAt (o - 378))
  else none

/-- The decoder, total on every pair: an opcode no family holds is rejected with its own value (R53). -/
def decode (p : Params) (x : Presented) : Decoded :=
  match dispatch p x.opcode.toNat x.imm with
  | some i => .instr i
  | none => .illegalOpcode x.opcode

/-- A word numbered as spec/opcode_table.json numbers it: the opcode is bits 15..0 and the immediate, the second 16-bit
word, bits 31..16; every bit from `nbits` up is 0 (log entry 10). -/
def presentedOfWord (nbits w : Nat) : Presented :=
  let v := w % 2 ^ nbits
  ⟨BitVec.ofNat 16 v, BitVec.ofNat 16 (v / 65536)⟩

/-- The instruction the decoder reads from a table word under the default parameters. -/
def decodeTableWord (nbits w : Nat) : Option Instr :=
  match decode Params.default (presentedOfWord nbits w) with
  | .instr i => some i
  | .illegalOpcode _ => none

/-! ### The encoder -/

/-- `SLL_REG_MAP^-1(r)` (R48): the first position of `r` in the map. -/
def sllPosition (p : Params) (r : Reg7) : Nat := p.sllRegMap.toList.idxOf r

/-- The opcode of `SLL r` (R48). -/
def sllOpcode (p : Params) (r : Reg7) : Word := BitVec.ofNat 16 (185 + sllPosition p r)

/-- The pair that presents an instruction (R48, and row by row spec/opcode_table.json); the immediate is 0 where the
family ignores it (R56). -/
def encode (p : Params) (i : Instr) : Presented :=
  match i with
  | .ldAA => ⟨0, 0⟩
  | .ldAB => ⟨1, 0⟩
  | .ldAC => ⟨2, 0⟩
  | .ldAD => ⟨3, 0⟩
  | .ldAE => ⟨4, 0⟩
  | .ldAH => ⟨5, 0⟩
  | .ldAL => ⟨6, 0⟩
  | .ldBA => ⟨7, 0⟩
  | .ldBB => ⟨8, 0⟩
  | .ldBC => ⟨9, 0⟩
  | .ldBD => ⟨10, 0⟩
  | .ldBE => ⟨11, 0⟩
  | .ldBH => ⟨12, 0⟩
  | .ldBL => ⟨13, 0⟩
  | .ldCA => ⟨14, 0⟩
  | .ldCB => ⟨15, 0⟩
  | .ldCC => ⟨16, 0⟩
  | .ldCD => ⟨17, 0⟩
  | .ldCE => ⟨18, 0⟩
  | .ldCH => ⟨19, 0⟩
  | .ldCL => ⟨20, 0⟩
  | .ldDA => ⟨21, 0⟩
  | .ldDB => ⟨22, 0⟩
  | .ldDC => ⟨23, 0⟩
  | .ldDD => ⟨24, 0⟩
  | .ldDE => ⟨25, 0⟩
  | .ldDH => ⟨26, 0⟩
  | .ldDL => ⟨27, 0⟩
  | .ldEA => ⟨28, 0⟩
  | .ldEB => ⟨29, 0⟩
  | .ldEC => ⟨30, 0⟩
  | .ldED => ⟨31, 0⟩
  | .ldEE => ⟨32, 0⟩
  | .ldEH => ⟨33, 0⟩
  | .ldEL => ⟨34, 0⟩
  | .ldHA => ⟨35, 0⟩
  | .ldHB => ⟨36, 0⟩
  | .ldHC => ⟨37, 0⟩
  | .ldHD => ⟨38, 0⟩
  | .ldHE => ⟨39, 0⟩
  | .ldHH => ⟨40, 0⟩
  | .ldHL => ⟨41, 0⟩
  | .ldLA => ⟨42, 0⟩
  | .ldLB => ⟨43, 0⟩
  | .ldLC => ⟨44, 0⟩
  | .ldLD => ⟨45, 0⟩
  | .ldLE => ⟨46, 0⟩
  | .ldLH => ⟨47, 0⟩
  | .ldLL => ⟨48, 0⟩
  | .ldAImm n => ⟨49, n.setWidth 16⟩
  | .ldBImm n => ⟨50, n.setWidth 16⟩
  | .ldCImm n => ⟨51, n.setWidth 16⟩
  | .ldDImm n => ⟨52, n.setWidth 16⟩
  | .ldEImm n => ⟨53, n.setWidth 16⟩
  | .ldHImm n => ⟨54, n.setWidth 16⟩
  | .ldLImm n => ⟨55, n.setWidth 16⟩
  | .addAA => ⟨56, 0⟩
  | .addAB => ⟨57, 0⟩
  | .addAC => ⟨58, 0⟩
  | .addAD => ⟨59, 0⟩
  | .addAE => ⟨60, 0⟩
  | .addAH => ⟨61, 0⟩
  | .addAL => ⟨62, 0⟩
  | .adcAA => ⟨63, 0⟩
  | .adcAB => ⟨64, 0⟩
  | .adcAC => ⟨65, 0⟩
  | .adcAD => ⟨66, 0⟩
  | .adcAE => ⟨67, 0⟩
  | .adcAH => ⟨68, 0⟩
  | .adcAL => ⟨69, 0⟩
  | .subA => ⟨70, 0⟩
  | .subB => ⟨71, 0⟩
  | .subC => ⟨72, 0⟩
  | .subD => ⟨73, 0⟩
  | .subE => ⟨74, 0⟩
  | .subH => ⟨75, 0⟩
  | .subL => ⟨76, 0⟩
  | .sbcAA => ⟨77, 0⟩
  | .sbcAB => ⟨78, 0⟩
  | .sbcAC => ⟨79, 0⟩
  | .sbcAD => ⟨80, 0⟩
  | .sbcAE => ⟨81, 0⟩
  | .sbcAH => ⟨82, 0⟩
  | .sbcAL => ⟨83, 0⟩
  | .andA => ⟨84, 0⟩
  | .andB => ⟨85, 0⟩
  | .andC => ⟨86, 0⟩
  | .andD => ⟨87, 0⟩
  | .andE => ⟨88, 0⟩
  | .andH => ⟨89, 0⟩
  | .andL => ⟨90, 0⟩
  | .xorA => ⟨91, 0⟩
  | .xorB => ⟨92, 0⟩
  | .xorC => ⟨93, 0⟩
  | .xorD => ⟨94, 0⟩
  | .xorE => ⟨95, 0⟩
  | .xorH => ⟨96, 0⟩
  | .xorL => ⟨97, 0⟩
  | .orA => ⟨98, 0⟩
  | .orB => ⟨99, 0⟩
  | .orC => ⟨100, 0⟩
  | .orD => ⟨101, 0⟩
  | .orE => ⟨102, 0⟩
  | .orH => ⟨103, 0⟩
  | .orL => ⟨104, 0⟩
  | .cpA => ⟨105, 0⟩
  | .cpB => ⟨106, 0⟩
  | .cpC => ⟨107, 0⟩
  | .cpD => ⟨108, 0⟩
  | .cpE => ⟨109, 0⟩
  | .cpH => ⟨110, 0⟩
  | .cpL => ⟨111, 0⟩
  | .incB => ⟨112, 0⟩
  | .incC => ⟨113, 0⟩
  | .incD => ⟨114, 0⟩
  | .incE => ⟨115, 0⟩
  | .incH => ⟨116, 0⟩
  | .incL => ⟨117, 0⟩
  | .incA => ⟨118, 0⟩
  | .decB => ⟨119, 0⟩
  | .decC => ⟨120, 0⟩
  | .decD => ⟨121, 0⟩
  | .decE => ⟨122, 0⟩
  | .decH => ⟨123, 0⟩
  | .decL => ⟨124, 0⟩
  | .decA => ⟨125, 0⟩
  | .rlca => ⟨126, 0⟩
  | .rrca => ⟨127, 0⟩
  | .rla => ⟨128, 0⟩
  | .rra => ⟨129, 0⟩
  | .daa => ⟨130, 0⟩
  | .cpl => ⟨131, 0⟩
  | .scf => ⟨132, 0⟩
  | .ccf => ⟨133, 0⟩
  | .neg => ⟨134, 0⟩
  | .nop => ⟨135, 0⟩
  | .rlcB => ⟨136, 0⟩
  | .rlcC => ⟨137, 0⟩
  | .rlcD => ⟨138, 0⟩
  | .rlcE => ⟨139, 0⟩
  | .rlcH => ⟨140, 0⟩
  | .rlcL => ⟨141, 0⟩
  | .rlcA => ⟨142, 0⟩
  | .rrcB => ⟨143, 0⟩
  | .rrcC => ⟨144, 0⟩
  | .rrcD => ⟨145, 0⟩
  | .rrcE => ⟨146, 0⟩
  | .rrcH => ⟨147, 0⟩
  | .rrcL => ⟨148, 0⟩
  | .rrcA => ⟨149, 0⟩
  | .rlB => ⟨150, 0⟩
  | .rlC => ⟨151, 0⟩
  | .rlD => ⟨152, 0⟩
  | .rlE => ⟨153, 0⟩
  | .rlH => ⟨154, 0⟩
  | .rlL => ⟨155, 0⟩
  | .rlA => ⟨156, 0⟩
  | .rrB => ⟨157, 0⟩
  | .rrC => ⟨158, 0⟩
  | .rrD => ⟨159, 0⟩
  | .rrE => ⟨160, 0⟩
  | .rrH => ⟨161, 0⟩
  | .rrL => ⟨162, 0⟩
  | .rrA => ⟨163, 0⟩
  | .slaB => ⟨164, 0⟩
  | .slaC => ⟨165, 0⟩
  | .slaD => ⟨166, 0⟩
  | .slaE => ⟨167, 0⟩
  | .slaH => ⟨168, 0⟩
  | .slaL => ⟨169, 0⟩
  | .slaA => ⟨170, 0⟩
  | .sraB => ⟨171, 0⟩
  | .sraC => ⟨172, 0⟩
  | .sraD => ⟨173, 0⟩
  | .sraE => ⟨174, 0⟩
  | .sraH => ⟨175, 0⟩
  | .sraL => ⟨176, 0⟩
  | .sraA => ⟨177, 0⟩
  | .srlB => ⟨178, 0⟩
  | .srlC => ⟨179, 0⟩
  | .srlD => ⟨180, 0⟩
  | .srlE => ⟨181, 0⟩
  | .srlH => ⟨182, 0⟩
  | .srlL => ⟨183, 0⟩
  | .srlA => ⟨184, 0⟩
  | .sllC => ⟨sllOpcode p .c, 0⟩
  | .sllD => ⟨sllOpcode p .d, 0⟩
  | .sllE => ⟨sllOpcode p .e, 0⟩
  | .sllH => ⟨sllOpcode p .h, 0⟩
  | .sllL => ⟨sllOpcode p .l, 0⟩
  | .sllA => ⟨sllOpcode p .a, 0⟩
  | .sllB => ⟨sllOpcode p .b, 0⟩
  | .bit0B => ⟨192, 0⟩
  | .bit0C => ⟨193, 0⟩
  | .bit0D => ⟨194, 0⟩
  | .bit0E => ⟨195, 0⟩
  | .bit0H => ⟨196, 0⟩
  | .bit0L => ⟨197, 0⟩
  | .bit0A => ⟨198, 0⟩
  | .bit1B => ⟨199, 0⟩
  | .bit1C => ⟨200, 0⟩
  | .bit1D => ⟨201, 0⟩
  | .bit1E => ⟨202, 0⟩
  | .bit1H => ⟨203, 0⟩
  | .bit1L => ⟨204, 0⟩
  | .bit1A => ⟨205, 0⟩
  | .bit2B => ⟨206, 0⟩
  | .bit2C => ⟨207, 0⟩
  | .bit2D => ⟨208, 0⟩
  | .bit2E => ⟨209, 0⟩
  | .bit2H => ⟨210, 0⟩
  | .bit2L => ⟨211, 0⟩
  | .bit2A => ⟨212, 0⟩
  | .bit3B => ⟨213, 0⟩
  | .bit3C => ⟨214, 0⟩
  | .bit3D => ⟨215, 0⟩
  | .bit3E => ⟨216, 0⟩
  | .bit3H => ⟨217, 0⟩
  | .bit3L => ⟨218, 0⟩
  | .bit3A => ⟨219, 0⟩
  | .bit4B => ⟨220, 0⟩
  | .bit4C => ⟨221, 0⟩
  | .bit4D => ⟨222, 0⟩
  | .bit4E => ⟨223, 0⟩
  | .bit4H => ⟨224, 0⟩
  | .bit4L => ⟨225, 0⟩
  | .bit4A => ⟨226, 0⟩
  | .bit5B => ⟨227, 0⟩
  | .bit5C => ⟨228, 0⟩
  | .bit5D => ⟨229, 0⟩
  | .bit5E => ⟨230, 0⟩
  | .bit5H => ⟨231, 0⟩
  | .bit5L => ⟨232, 0⟩
  | .bit5A => ⟨233, 0⟩
  | .bit6B => ⟨234, 0⟩
  | .bit6C => ⟨235, 0⟩
  | .bit6D => ⟨236, 0⟩
  | .bit6E => ⟨237, 0⟩
  | .bit6H => ⟨238, 0⟩
  | .bit6L => ⟨239, 0⟩
  | .bit6A => ⟨240, 0⟩
  | .bit7B => ⟨241, 0⟩
  | .bit7C => ⟨242, 0⟩
  | .bit7D => ⟨243, 0⟩
  | .bit7E => ⟨244, 0⟩
  | .bit7H => ⟨245, 0⟩
  | .bit7L => ⟨246, 0⟩
  | .bit7A => ⟨247, 0⟩
  | .res0B => ⟨248, 0⟩
  | .res0C => ⟨249, 0⟩
  | .res0D => ⟨250, 0⟩
  | .res0E => ⟨251, 0⟩
  | .res0H => ⟨252, 0⟩
  | .res0L => ⟨253, 0⟩
  | .res0A => ⟨254, 0⟩
  | .res1B => ⟨255, 0⟩
  | .res1C => ⟨256, 0⟩
  | .res1D => ⟨257, 0⟩
  | .res1E => ⟨258, 0⟩
  | .res1H => ⟨259, 0⟩
  | .res1L => ⟨260, 0⟩
  | .res1A => ⟨261, 0⟩
  | .res2B => ⟨262, 0⟩
  | .res2C => ⟨263, 0⟩
  | .res2D => ⟨264, 0⟩
  | .res2E => ⟨265, 0⟩
  | .res2H => ⟨266, 0⟩
  | .res2L => ⟨267, 0⟩
  | .res2A => ⟨268, 0⟩
  | .res3B => ⟨269, 0⟩
  | .res3C => ⟨270, 0⟩
  | .res3D => ⟨271, 0⟩
  | .res3E => ⟨272, 0⟩
  | .res3H => ⟨273, 0⟩
  | .res3L => ⟨274, 0⟩
  | .res3A => ⟨275, 0⟩
  | .res4B => ⟨276, 0⟩
  | .res4C => ⟨277, 0⟩
  | .res4D => ⟨278, 0⟩
  | .res4E => ⟨279, 0⟩
  | .res4H => ⟨280, 0⟩
  | .res4L => ⟨281, 0⟩
  | .res4A => ⟨282, 0⟩
  | .res5B => ⟨283, 0⟩
  | .res5C => ⟨284, 0⟩
  | .res5D => ⟨285, 0⟩
  | .res5E => ⟨286, 0⟩
  | .res5H => ⟨287, 0⟩
  | .res5L => ⟨288, 0⟩
  | .res5A => ⟨289, 0⟩
  | .res6B => ⟨290, 0⟩
  | .res6C => ⟨291, 0⟩
  | .res6D => ⟨292, 0⟩
  | .res6E => ⟨293, 0⟩
  | .res6H => ⟨294, 0⟩
  | .res6L => ⟨295, 0⟩
  | .res6A => ⟨296, 0⟩
  | .res7B => ⟨297, 0⟩
  | .res7C => ⟨298, 0⟩
  | .res7D => ⟨299, 0⟩
  | .res7E => ⟨300, 0⟩
  | .res7H => ⟨301, 0⟩
  | .res7L => ⟨302, 0⟩
  | .res7A => ⟨303, 0⟩
  | .set0B => ⟨304, 0⟩
  | .set0C => ⟨305, 0⟩
  | .set0D => ⟨306, 0⟩
  | .set0E => ⟨307, 0⟩
  | .set0H => ⟨308, 0⟩
  | .set0L => ⟨309, 0⟩
  | .set0A => ⟨310, 0⟩
  | .set1B => ⟨311, 0⟩
  | .set1C => ⟨312, 0⟩
  | .set1D => ⟨313, 0⟩
  | .set1E => ⟨314, 0⟩
  | .set1H => ⟨315, 0⟩
  | .set1L => ⟨316, 0⟩
  | .set1A => ⟨317, 0⟩
  | .set2B => ⟨318, 0⟩
  | .set2C => ⟨319, 0⟩
  | .set2D => ⟨320, 0⟩
  | .set2E => ⟨321, 0⟩
  | .set2H => ⟨322, 0⟩
  | .set2L => ⟨323, 0⟩
  | .set2A => ⟨324, 0⟩
  | .set3B => ⟨325, 0⟩
  | .set3C => ⟨326, 0⟩
  | .set3D => ⟨327, 0⟩
  | .set3E => ⟨328, 0⟩
  | .set3H => ⟨329, 0⟩
  | .set3L => ⟨330, 0⟩
  | .set3A => ⟨331, 0⟩
  | .set4B => ⟨332, 0⟩
  | .set4C => ⟨333, 0⟩
  | .set4D => ⟨334, 0⟩
  | .set4E => ⟨335, 0⟩
  | .set4H => ⟨336, 0⟩
  | .set4L => ⟨337, 0⟩
  | .set4A => ⟨338, 0⟩
  | .set5B => ⟨339, 0⟩
  | .set5C => ⟨340, 0⟩
  | .set5D => ⟨341, 0⟩
  | .set5E => ⟨342, 0⟩
  | .set5H => ⟨343, 0⟩
  | .set5L => ⟨344, 0⟩
  | .set5A => ⟨345, 0⟩
  | .set6B => ⟨346, 0⟩
  | .set6C => ⟨347, 0⟩
  | .set6D => ⟨348, 0⟩
  | .set6E => ⟨349, 0⟩
  | .set6H => ⟨350, 0⟩
  | .set6L => ⟨351, 0⟩
  | .set6A => ⟨352, 0⟩
  | .set7B => ⟨353, 0⟩
  | .set7C => ⟨354, 0⟩
  | .set7D => ⟨355, 0⟩
  | .set7E => ⟨356, 0⟩
  | .set7H => ⟨357, 0⟩
  | .set7L => ⟨358, 0⟩
  | .set7A => ⟨359, 0⟩
  | .incBc => ⟨360, 0⟩
  | .incDe => ⟨361, 0⟩
  | .incHl => ⟨362, 0⟩
  | .incSp => ⟨363, 0⟩
  | .decBc => ⟨364, 0⟩
  | .decDe => ⟨365, 0⟩
  | .decHl => ⟨366, 0⟩
  | .decSp => ⟨367, 0⟩
  | .addHlBc => ⟨368, 0⟩
  | .addHlDe => ⟨369, 0⟩
  | .addHlHl => ⟨370, 0⟩
  | .addHlSp => ⟨371, 0⟩
  | .exDeHl => ⟨372, 0⟩
  | .ldSpHl => ⟨373, 0⟩
  | .ldBcImm nn => ⟨374, nn⟩
  | .ldDeImm nn => ⟨375, nn⟩
  | .ldHlImm nn => ⟨376, nn⟩
  | .ldSpImm nn => ⟨377, nn⟩
  | .adcHlBc => ⟨378, 0⟩
  | .adcHlDe => ⟨379, 0⟩
  | .adcHlHl => ⟨380, 0⟩
  | .adcHlSp => ⟨381, 0⟩
  | .sbcHlBc => ⟨382, 0⟩
  | .sbcHlDe => ⟨383, 0⟩
  | .sbcHlHl => ⟨384, 0⟩
  | .sbcHlSp => ⟨385, 0⟩

end Sys2Proof
end

