-- ==== Sys2Proof/Machine/Flags.lean ====
section
/-! DEFINITION. The flag masks (10_state.md R16), the flag tables and the carry-lookup index (40_flag_tables.md), the
adder primitives, and the flag formula of every instruction. -/

namespace Sys2Proof.Machine

/-! ### Masks (10_state.md R16) -/

def flagS : Byte := 0x80
def flagZ : Byte := 0x40
def flag5 : Byte := 0x20
def flagH : Byte := 0x10
def flag3 : Byte := 0x08
def flagPV : Byte := 0x04
def flagN : Byte := 0x02
def flagC : Byte := 0x01

/-- `KEEP_SZP` (43_misc.md). -/
def keepSZP : Byte := flagS ||| flagZ ||| flagPV

/-- `c ? m : 0` (00_scope.md R10). -/
def flagIf (c : Bool) (m : Byte) : Byte := if c then m else 0

/-- The carry flag as a byte: the value `F & FLAG_C` takes when C is `c`. -/
def carryByte (c : BitVec 1) : Byte := c.setWidth 8

/-! ### The 256-entry tables -/

/-- `SZ53` (R59). -/
def sz53 (v : Byte) : Byte := (v &&& 0xA8) ||| flagIf (v == 0) flagZ

/-- `popcount(v)` (00_scope.md R10). -/
def popcount (v : Byte) : Nat := ((List.range 8).map fun i => (v.getLsbD i).toNat).sum

/-- `PAR` (R60). -/
def par (v : Byte) : Byte := flagIf (popcount v % 2 == 0) flagPV

/-- `SZ53P` (R61). -/
def sz53p (v : Byte) : Byte := sz53 v ||| par v

/-! ### The carry-lookup index and the 8-entry tables -/

/-- `lookup8` (R62). -/
def lookup8 (a b r : Byte) : Byte := ((a &&& 0x88) >>> 3) ||| ((b &&& 0x88) >>> 2) ||| ((r &&& 0x88) >>> 1)

/-- `lookup16` (R63). -/
def lookup16 (a b r : Word) : Byte :=
  (((a &&& 0x8800) >>> 11) ||| ((b &&& 0x8800) >>> 10) ||| ((r &&& 0x8800) >>> 9)).setWidth 8

/-- `k & 0x07`: the half-carry index of a lookup (R62, R63). -/
def halfIndex (k : Byte) : BitVec 3 := k.extractLsb' 0 3

/-- `k >> 4`: the overflow index of a lookup (R62, R63). -/
def overflowIndex (k : Byte) : BitVec 3 := k.extractLsb' 4 3

/-- An 8-entry table read at a 3-bit index (20_memory.md R29). -/
def tableAt (t : Vector Byte 8) (i : BitVec 3) : Byte := t.get i.toFin

/-- `HC_ADD` (R64). -/
def hcAdd : Vector Byte 8 := #v[0x00, 0x10, 0x10, 0x10, 0x00, 0x00, 0x00, 0x10]

/-- `HC_SUB` (R65). -/
def hcSub : Vector Byte 8 := #v[0x00, 0x00, 0x10, 0x00, 0x10, 0x00, 0x10, 0x10]

/-- `OV_ADD` (R66). -/
def ovAdd : Vector Byte 8 := #v[0x00, 0x00, 0x00, 0x04, 0x04, 0x00, 0x00, 0x00]

/-- `OV_SUB` (R67). -/
def ovSub : Vector Byte 8 := #v[0x00, 0x04, 0x00, 0x00, 0x00, 0x00, 0x04, 0x00]

/-! ### The adder primitives -/

/-- A result byte and the flag byte that goes with it. -/
structure Out8 where
  res : Byte
  flags : Byte
  deriving DecidableEq, Repr

/-- A 16-bit result and the flag byte that goes with it. -/
structure Out16 where
  res : Word
  flags : Byte
  deriving DecidableEq, Repr

/-- `ADD8` (R71). -/
def add8 (a b : Byte) (cin : BitVec 1) : Out8 :=
  let t : Word := a.setWidth 16 + b.setWidth 16 + cin.setWidth 16
  let res : Byte := t.setWidth 8
  let k := lookup8 a b res
  { res := res
    flags := flagIf (t.getLsbD 8) flagC ||| tableAt hcAdd (halfIndex k) ||| tableAt ovAdd (overflowIndex k) ||| sz53 res }

/-- `SUB8` (R72). -/
def sub8 (a b : Byte) (cin : BitVec 1) : Out8 :=
  let t : Word := a.setWidth 16 - b.setWidth 16 - cin.setWidth 16
  let res : Byte := t.setWidth 8
  let k := lookup8 a b res
  { res := res
    flags := flagIf (t.getLsbD 8) flagC ||| flagN ||| tableAt hcSub (halfIndex k) ||| tableAt ovSub (overflowIndex k) |||
      sz53 res }

/-! ### 8-bit ALU flags (42_alu8.md) -/

/-- AND's result and flags (R79). -/
def and8 (a b : Byte) : Out8 := { res := a &&& b, flags := flagH ||| sz53p (a &&& b) }

/-- XOR's result and flags (R80). -/
def xor8 (a b : Byte) : Out8 := { res := a ^^^ b, flags := sz53p (a ^^^ b) }

/-- OR's result and flags (R81). -/
def or8 (a b : Byte) : Out8 := { res := a ||| b, flags := sz53p (a ||| b) }

/-- CP's flags (R82): Z from the widened result, bits 5 and 3 from the operand. -/
def cpFlags (a v : Byte) : Byte :=
  let t : Word := a.setWidth 16 - v.setWidth 16
  let k := lookup8 a v (t.setWidth 8)
  (if t.getLsbD 8 then flagC else flagIf (t == 0) flagZ) ||| flagN ||| tableAt hcSub (halfIndex k) |||
    tableAt ovSub (overflowIndex k) ||| (v &&& (flag5 ||| flag3)) ||| (t.setWidth 8 &&& flagS)

/-- INC r's result and flags (R83); `f` is the old `F`. -/
def inc8 (f v : Byte) : Out8 :=
  let res := v + 1
  { res := res
    flags := (f &&& flagC) ||| flagIf (res == 0x80) flagPV ||| flagIf (res &&& 0x0F == 0) flagH ||| sz53 res }

/-- DEC r's result and flags (R84); `f` is the old `F`. -/
def dec8 (f v : Byte) : Out8 :=
  let res := v - 1
  { res := res
    flags := (f &&& flagC) ||| flagIf (v &&& 0x0F == 0) flagH ||| flagN ||| flagIf (res == 0x7F) flagPV ||| sz53 res }

/-! ### Miscellaneous flags (43_misc.md) -/

/-- The flags of the four accumulator rotates (R85 to R88): S, Z, P/V kept, bits 5 and 3 from the result, C the bit
rotated out. -/
def rotateAFlags (f res : Byte) (out : BitVec 1) : Byte :=
  (f &&& keepSZP) ||| (res &&& (flag5 ||| flag3)) ||| carryByte out

/-- DAA's adjustment (R89). -/
def daaAdjust (a f : Byte) : Byte :=
  flagIf (f &&& flagH != 0 || 9 < a &&& 0x0F) 0x06 ||| flagIf (f &&& flagC != 0 || 0x99 < a) 0x60

/-- DAA's result and flags (R89). -/
def daa8 (a f : Byte) : Out8 :=
  let adj := daaAdjust a f
  let carry := if 0x99 < a then flagC else f &&& flagC
  let out := if f &&& flagN != 0 then sub8 a adj 0 else add8 a adj 0
  { res := out.res, flags := (out.flags &&& ~~~(flagC ||| flagPV)) ||| carry ||| par out.res }

/-- CPL's flags (R90). -/
def cplFlags (f res : Byte) : Byte :=
  (f &&& (flagC ||| flagPV ||| flagZ ||| flagS)) ||| (res &&& (flag5 ||| flag3)) ||| flagN ||| flagH

/-- SCF's flags (R91). -/
def scfFlags (f a : Byte) : Byte := (f &&& keepSZP) ||| (a &&& (flag5 ||| flag3)) ||| flagC

/-- CCF's flags (R92). -/
def ccfFlags (f a : Byte) : Byte :=
  (f &&& keepSZP) ||| (if f &&& flagC != 0 then flagH else flagC) ||| (a &&& (flag5 ||| flag3))

/-! ### CB flags (44_cb.md) -/

/-- The flags of every CB rotate and shift: the bit shifted out and `SZ53P` of the new value (R95 to R102). -/
def shiftFlags (res : Byte) (out : BitVec 1) : Byte := carryByte out ||| sz53p res

/-- BIT's flags (R103). -/
def bitFlags (f v : Byte) (b : Fin 8) : Byte :=
  (f &&& flagC) ||| flagH ||| (v &&& (flag5 ||| flag3)) ||| flagIf (!v.getLsbD b.val) (flagZ ||| flagPV) |||
    flagIf (b.val == 7 && v.getLsbD 7) flagS

/-! ### 16-bit flags (45_pair16.md) -/

/-- `(r[15:8] & m)`: flags copied from the high byte of a 16-bit result. -/
def highFlags (r : Word) (m : Byte) : Byte := r.extractLsb' 8 8 &&& m

/-- ADD HL,p (R108); `f` is the old `F`. -/
def add16 (f : Byte) (a b : Word) : Out16 :=
  let t : BitVec 17 := a.setWidth 17 + b.setWidth 17
  let r : Word := t.setWidth 16
  { res := r
    flags := (f &&& (flagS ||| flagZ ||| flagPV)) ||| flagIf (t.getLsbD 16) flagC ||| highFlags r (flag5 ||| flag3) |||
      tableAt hcAdd (halfIndex (lookup16 a b r)) }

/-- ADC HL,p (R112). -/
def adc16 (a b : Word) (cin : BitVec 1) : Out16 :=
  let t : BitVec 17 := a.setWidth 17 + b.setWidth 17 + cin.setWidth 17
  let r : Word := t.setWidth 16
  let k := lookup16 a b r
  { res := r
    flags := flagIf (t.getLsbD 16) flagC ||| tableAt ovAdd (overflowIndex k) |||
      highFlags r (flagS ||| flag5 ||| flag3) ||| tableAt hcAdd (halfIndex k) ||| flagIf (r == 0) flagZ }

/-- SBC HL,p (R113). -/
def sbc16 (a b : Word) (cin : BitVec 1) : Out16 :=
  let t : BitVec 17 := a.setWidth 17 - b.setWidth 17 - cin.setWidth 17
  let r : Word := t.setWidth 16
  let k := lookup16 a b r
  { res := r
    flags := flagIf (t.getLsbD 16) flagC ||| flagN ||| tableAt ovSub (overflowIndex k) |||
      highFlags r (flagS ||| flag5 ||| flag3) ||| tableAt hcSub (halfIndex k) ||| flagIf (r == 0) flagZ }

end Sys2Proof.Machine
end

