-- ==== Sys2Proof/Machine/State.lean ====
section
/-! DEFINITION. The state of the block (10_state.md), the host's side of its interface (60_exceptions.md R121), and the
reasons a step can stop. The block has no memory (20_memory.md R28) and no program counter (10_state.md R19). -/

namespace Sys2Proof.Machine

/-- The fault latch `FAULT` (10_state.md R23). -/
structure FaultLatch where
  valid : Bool
  opcode : Word
  deriving DecidableEq, Repr

/-- The 10-byte state image `A, F, B, C, D, E, H, L, SP[7:0], SP[15:8]` (20_memory.md R30). -/
abbrev Image := Vector Byte 10

/-- The operations of the host interface (60_exceptions.md R121). -/
inductive HostOp where
  | reset
  | loadState (image : Image)
  | execute (x : Presented)
  | readState
  | readFault
  deriving DecidableEq, Repr

/-- What the two reading operations hand back to the host (60_exceptions.md R121). -/
inductive Reply where
  | state (image : Image)
  | fault (latch : FaultLatch)
  deriving DecidableEq, Repr

/-- One instance of the block and the host's side of its interface. Registers: 10_state.md R13; `fault`: R23; `params`:
00_scope.md R8 (log entry 6). `loaded`: a `load_state` has been performed since reset (70_reset_and_hazards.md R131, log
entry 8). `inputs`: the host operations still to be performed, the next one first (log entry 2). `replies`: what the
host has been handed back, oldest first (log entry 7). -/
structure State where
  a : Byte
  f : Byte
  b : Byte
  c : Byte
  d : Byte
  e : Byte
  h : Byte
  l : Byte
  sp : Word
  fault : FaultLatch
  params : Params
  loaded : Bool
  inputs : List HostOp
  replies : List Reply
  deriving DecidableEq, Repr

/-- Why the machine stops. -/
inductive Fault where
  /-- Raised by `execute` when the fault latch is set: the block has no step (60_exceptions.md R116). Safe. -/
  | latched
  deriving DecidableEq, Repr

/-- Why a step is not modelled. -/
inductive Refusal where
  /-- Raised by an arm of `exec` whose instruction has no meaning yet; no arm does. Safe. -/
  | notModelled (mnemonic : String)
  /-- Raised by `step` when the host presents no operation: the block does nothing on its own (10_state.md R19), so
  there is no step to make (log entry 3). Safe. -/
  | nothingPresented
  deriving DecidableEq, Repr

/-- The outcome of a meaning. -/
abbrev Result := Host.Outcome State Fault Refusal

/-- The block right after reset (10_state.md R27, 70_reset_and_hazards.md R129): `FAULT.valid` is 0. The registers and
`FAULT.opcode` have no value in the spec; the model names zero (log entry 1). -/
def State.reset : State where
  a := 0
  f := 0
  b := 0
  c := 0
  d := 0
  e := 0
  h := 0
  l := 0
  sp := 0
  fault := { valid := false, opcode := 0 }
  params := Params.default
  loaded := false
  inputs := []
  replies := []

end Sys2Proof.Machine
end

