-- ==== Sys2Proof/Machine/Operands.lean ====
section
/-! DEFINITION. Every operand form: an 8-bit register, a register pair, the incoming carry, a bit mask. -/

namespace Sys2Proof.Machine

/-- `reg8[r]` (00_scope.md R11). -/
def reg8 (r : Reg7) (s : State) : Byte :=
  match r with
  | .a => s.a
  | .b => s.b
  | .c => s.c
  | .d => s.d
  | .e => s.e
  | .h => s.h
  | .l => s.l

/-- `reg8[r] <- v` (00_scope.md R11). -/
def setReg8 (r : Reg7) (v : Byte) (s : State) : State :=
  match r with
  | .a => { s with a := v }
  | .b => { s with b := v }
  | .c => { s with c := v }
  | .d => { s with d := v }
  | .e => { s with e := v }
  | .h => { s with h := v }
  | .l => { s with l := v }

/-- `v[15:8]` (00_scope.md R9). -/
def highByte (v : Word) : Byte := v.extractLsb' 8 8

/-- `v[7:0]` (00_scope.md R9). -/
def lowByte (v : Word) : Byte := v.extractLsb' 0 8

/-- `{hi, lo}` (00_scope.md R9). -/
def joinBytes (hi lo : Byte) : Word := (hi.setWidth 16 <<< 8) ||| lo.setWidth 16

/-- `pair[p]` (10_state.md R15). -/
def pair (p : Pair) (s : State) : Word :=
  match p with
  | .bc => joinBytes s.b s.c
  | .de => joinBytes s.d s.e
  | .hl => joinBytes s.h s.l
  | .sp => s.sp

/-- `pair[p] <- v` (10_state.md R15): both halves in one write (20_memory.md R32). -/
def setPair (p : Pair) (v : Word) (s : State) : State :=
  match p with
  | .bc => { s with b := highByte v, c := lowByte v }
  | .de => { s with d := highByte v, e := lowByte v }
  | .hl => { s with h := highByte v, l := lowByte v }
  | .sp => { s with sp := v }

/-- `F <- v` (00_scope.md R11): all eight bits (10_state.md R17). -/
def setFlags (v : Byte) (s : State) : State := { s with f := v }

/-- The incoming carry `F & FLAG_C` as one bit (10_state.md R16: C is bit 0). -/
def carryIn (s : State) : BitVec 1 := s.f.extractLsb' 0 1

/-- `1 << b` (44_cb.md R104, R105). -/
def bitMask (b : Fin 8) : Byte := 1#8 <<< b.val

end Sys2Proof.Machine
end

