-- ==== Sys2Proof/Machine/Ops.lean ====
section
/-! DEFINITION. Named operations over the whole state: writing a result with its flags, taking the one exception, leaving
it, and the host's load and read operations. There is no memory operation: the block has no memory (20_memory.md R28). -/

namespace Sys2Proof.Machine

/-! ### Writing a result -/

/-- `reg8[r] <- res ; F <- flags`, one transition (70_reset_and_hazards.md R132). -/
def putOut8 (r : Reg7) (o : Out8) (s : State) : State := setFlags o.flags (setReg8 r o.res s)

/-- `pair[HL] <- res ; F <- flags`. -/
def putOutHl (o : Out16) (s : State) : State := setFlags o.flags (setPair .hl o.res s)

/-! ### The exception -/

/-- Taking `IllegalOpcode` (60_exceptions.md R115, R120): the fault latch is set with the opcode and nothing else is
written; there is no saved context, mode, vector or handler. -/
def raiseIllegalOpcode (opcode : Word) (s : State) : State := { s with fault := { valid := true, opcode := opcode } }

/-- What an out-of-range opcode does under `OOR_POLICY` (60_exceptions.md R114, R117). -/
def outOfRange (opcode : Word) (s : State) : State :=
  match s.params.oorPolicy with
  | .fault => raiseIllegalOpcode opcode s
  | .inert => s

/-- Host operation `reset` (70_reset_and_hazards.md R129), the only way out of the exception (60_exceptions.md R116,
R120): the block's state becomes the state after reset; the parameters and the host's own lists are no state of the
block and stay. -/
def hostReset (s : State) : State :=
  { State.reset with params := s.params, inputs := s.inputs, replies := s.replies }

/-! ### The host's loads and reads -/

/-- The image of the registers, in the order of 20_memory.md R30. -/
def imageOf (s : State) : Image := #v[s.a, s.f, s.b, s.c, s.d, s.e, s.h, s.l, lowByte s.sp, highByte s.sp]

/-- Host operation `load_state` (60_exceptions.md R121): every register is written from the image, any byte is accepted
for `F` (10_state.md R18), and `FAULT` is unchanged. -/
def loadImage (m : Image) (s : State) : State :=
  { s with
    a := m[0], f := m[1], b := m[2], c := m[3], d := m[4], e := m[5], h := m[6], l := m[7]
    sp := joinBytes m[9] m[8]
    loaded := true }

/-- Hand a reply to the host; the block itself is unchanged (60_exceptions.md R121, 20_memory.md R33). -/
def reply (r : Reply) (s : State) : State := { s with replies := s.replies ++ [r] }

/-- Host operation `read_state` (60_exceptions.md R121). -/
def readState (s : State) : State := reply (.state (imageOf s)) s

/-- Host operation `read_fault` (60_exceptions.md R121). -/
def readFault (s : State) : State := reply (.fault s.fault) s

/-- The host's next operation and the state once it has been taken; none when the host presents nothing. -/
def takeInput (s : State) : Option (HostOp × State) :=
  match s.inputs with
  | [] => none
  | op :: rest => some (op, { s with inputs := rest })

end Sys2Proof.Machine
end

