-- ==== Sys2Proof/Machine/Alu8.lean ====
section
/-! DEFINITION. 8-bit ALU (42_alu8.md): families 3, 4 and 5. -/

namespace Sys2Proof.Machine

/-- `ADD A,s` (R75). -/
def aluAdd (src : Reg7) (s : State) : State := putOut8 .a (add8 s.a (reg8 src s) 0) s

/-- `ADC A,s` (R76). -/
def aluAdc (src : Reg7) (s : State) : State := putOut8 .a (add8 s.a (reg8 src s) (carryIn s)) s

/-- `SUB s` (R77). -/
def aluSub (src : Reg7) (s : State) : State := putOut8 .a (sub8 s.a (reg8 src s) 0) s

/-- `SBC A,s` (R78). -/
def aluSbc (src : Reg7) (s : State) : State := putOut8 .a (sub8 s.a (reg8 src s) (carryIn s)) s

/-- `AND s` (R79). -/
def aluAnd (src : Reg7) (s : State) : State := putOut8 .a (and8 s.a (reg8 src s)) s

/-- `XOR s` (R80). -/
def aluXor (src : Reg7) (s : State) : State := putOut8 .a (xor8 s.a (reg8 src s)) s

/-- `OR s` (R81). -/
def aluOr (src : Reg7) (s : State) : State := putOut8 .a (or8 s.a (reg8 src s)) s

/-- `CP s` (R82): only `F` is written. -/
def aluCp (src : Reg7) (s : State) : State := setFlags (cpFlags s.a (reg8 src s)) s

/-- `INC r` (R83). -/
def incReg (r : Reg7) (s : State) : State := putOut8 r (inc8 s.f (reg8 r s)) s

/-- `DEC r` (R84). -/
def decReg (r : Reg7) (s : State) : State := putOut8 r (dec8 s.f (reg8 r s)) s

/-! ### One meaning per instruction -/

/-- `ADD A,A`, opcode 56. -/
def execAddAA (s : State) : Result := .next (aluAdd .a s)

/-- `ADD A,B`, opcode 57. -/
def execAddAB (s : State) : Result := .next (aluAdd .b s)

/-- `ADD A,C`, opcode 58. -/
def execAddAC (s : State) : Result := .next (aluAdd .c s)

/-- `ADD A,D`, opcode 59. -/
def execAddAD (s : State) : Result := .next (aluAdd .d s)

/-- `ADD A,E`, opcode 60. -/
def execAddAE (s : State) : Result := .next (aluAdd .e s)

/-- `ADD A,H`, opcode 61. -/
def execAddAH (s : State) : Result := .next (aluAdd .h s)

/-- `ADD A,L`, opcode 62. -/
def execAddAL (s : State) : Result := .next (aluAdd .l s)

/-- `ADC A,A`, opcode 63. -/
def execAdcAA (s : State) : Result := .next (aluAdc .a s)

/-- `ADC A,B`, opcode 64. -/
def execAdcAB (s : State) : Result := .next (aluAdc .b s)

/-- `ADC A,C`, opcode 65. -/
def execAdcAC (s : State) : Result := .next (aluAdc .c s)

/-- `ADC A,D`, opcode 66. -/
def execAdcAD (s : State) : Result := .next (aluAdc .d s)

/-- `ADC A,E`, opcode 67. -/
def execAdcAE (s : State) : Result := .next (aluAdc .e s)

/-- `ADC A,H`, opcode 68. -/
def execAdcAH (s : State) : Result := .next (aluAdc .h s)

/-- `ADC A,L`, opcode 69. -/
def execAdcAL (s : State) : Result := .next (aluAdc .l s)

/-- `SUB A`, opcode 70. -/
def execSubA (s : State) : Result := .next (aluSub .a s)

/-- `SUB B`, opcode 71. -/
def execSubB (s : State) : Result := .next (aluSub .b s)

/-- `SUB C`, opcode 72. -/
def execSubC (s : State) : Result := .next (aluSub .c s)

/-- `SUB D`, opcode 73. -/
def execSubD (s : State) : Result := .next (aluSub .d s)

/-- `SUB E`, opcode 74. -/
def execSubE (s : State) : Result := .next (aluSub .e s)

/-- `SUB H`, opcode 75. -/
def execSubH (s : State) : Result := .next (aluSub .h s)

/-- `SUB L`, opcode 76. -/
def execSubL (s : State) : Result := .next (aluSub .l s)

/-- `SBC A,A`, opcode 77. -/
def execSbcAA (s : State) : Result := .next (aluSbc .a s)

/-- `SBC A,B`, opcode 78. -/
def execSbcAB (s : State) : Result := .next (aluSbc .b s)

/-- `SBC A,C`, opcode 79. -/
def execSbcAC (s : State) : Result := .next (aluSbc .c s)

/-- `SBC A,D`, opcode 80. -/
def execSbcAD (s : State) : Result := .next (aluSbc .d s)

/-- `SBC A,E`, opcode 81. -/
def execSbcAE (s : State) : Result := .next (aluSbc .e s)

/-- `SBC A,H`, opcode 82. -/
def execSbcAH (s : State) : Result := .next (aluSbc .h s)

/-- `SBC A,L`, opcode 83. -/
def execSbcAL (s : State) : Result := .next (aluSbc .l s)

/-- `AND A`, opcode 84. -/
def execAndA (s : State) : Result := .next (aluAnd .a s)

/-- `AND B`, opcode 85. -/
def execAndB (s : State) : Result := .next (aluAnd .b s)

/-- `AND C`, opcode 86. -/
def execAndC (s : State) : Result := .next (aluAnd .c s)

/-- `AND D`, opcode 87. -/
def execAndD (s : State) : Result := .next (aluAnd .d s)

/-- `AND E`, opcode 88. -/
def execAndE (s : State) : Result := .next (aluAnd .e s)

/-- `AND H`, opcode 89. -/
def execAndH (s : State) : Result := .next (aluAnd .h s)

/-- `AND L`, opcode 90. -/
def execAndL (s : State) : Result := .next (aluAnd .l s)

/-- `XOR A`, opcode 91. -/
def execXorA (s : State) : Result := .next (aluXor .a s)

/-- `XOR B`, opcode 92. -/
def execXorB (s : State) : Result := .next (aluXor .b s)

/-- `XOR C`, opcode 93. -/
def execXorC (s : State) : Result := .next (aluXor .c s)

/-- `XOR D`, opcode 94. -/
def execXorD (s : State) : Result := .next (aluXor .d s)

/-- `XOR E`, opcode 95. -/
def execXorE (s : State) : Result := .next (aluXor .e s)

/-- `XOR H`, opcode 96. -/
def execXorH (s : State) : Result := .next (aluXor .h s)

/-- `XOR L`, opcode 97. -/
def execXorL (s : State) : Result := .next (aluXor .l s)

/-- `OR A`, opcode 98. -/
def execOrA (s : State) : Result := .next (aluOr .a s)

/-- `OR B`, opcode 99. -/
def execOrB (s : State) : Result := .next (aluOr .b s)

/-- `OR C`, opcode 100. -/
def execOrC (s : State) : Result := .next (aluOr .c s)

/-- `OR D`, opcode 101. -/
def execOrD (s : State) : Result := .next (aluOr .d s)

/-- `OR E`, opcode 102. -/
def execOrE (s : State) : Result := .next (aluOr .e s)

/-- `OR H`, opcode 103. -/
def execOrH (s : State) : Result := .next (aluOr .h s)

/-- `OR L`, opcode 104. -/
def execOrL (s : State) : Result := .next (aluOr .l s)

/-- `CP A`, opcode 105. -/
def execCpA (s : State) : Result := .next (aluCp .a s)

/-- `CP B`, opcode 106. -/
def execCpB (s : State) : Result := .next (aluCp .b s)

/-- `CP C`, opcode 107. -/
def execCpC (s : State) : Result := .next (aluCp .c s)

/-- `CP D`, opcode 108. -/
def execCpD (s : State) : Result := .next (aluCp .d s)

/-- `CP E`, opcode 109. -/
def execCpE (s : State) : Result := .next (aluCp .e s)

/-- `CP H`, opcode 110. -/
def execCpH (s : State) : Result := .next (aluCp .h s)

/-- `CP L`, opcode 111. -/
def execCpL (s : State) : Result := .next (aluCp .l s)

/-- `INC B`, opcode 112. -/
def execIncB (s : State) : Result := .next (incReg .b s)

/-- `INC C`, opcode 113. -/
def execIncC (s : State) : Result := .next (incReg .c s)

/-- `INC D`, opcode 114. -/
def execIncD (s : State) : Result := .next (incReg .d s)

/-- `INC E`, opcode 115. -/
def execIncE (s : State) : Result := .next (incReg .e s)

/-- `INC H`, opcode 116. -/
def execIncH (s : State) : Result := .next (incReg .h s)

/-- `INC L`, opcode 117. -/
def execIncL (s : State) : Result := .next (incReg .l s)

/-- `INC A`, opcode 118. -/
def execIncA (s : State) : Result := .next (incReg .a s)

/-- `DEC B`, opcode 119. -/
def execDecB (s : State) : Result := .next (decReg .b s)

/-- `DEC C`, opcode 120. -/
def execDecC (s : State) : Result := .next (decReg .c s)

/-- `DEC D`, opcode 121. -/
def execDecD (s : State) : Result := .next (decReg .d s)

/-- `DEC E`, opcode 122. -/
def execDecE (s : State) : Result := .next (decReg .e s)

/-- `DEC H`, opcode 123. -/
def execDecH (s : State) : Result := .next (decReg .h s)

/-- `DEC L`, opcode 124. -/
def execDecL (s : State) : Result := .next (decReg .l s)

/-- `DEC A`, opcode 125. -/
def execDecA (s : State) : Result := .next (decReg .a s)

end Sys2Proof.Machine
end

