-- ==== Sys2Proof/Machine/Cb.lean ====
section
/-! DEFINITION. The CB bit, rotate and shift unit (44_cb.md): families 7, 8 and 9. -/

namespace Sys2Proof.Machine

/-! ### The value transforms: the new value and its flags -/

/-- RLC (R95). -/
def rlcOut (v : Byte) : Out8 :=
  let res := (v <<< 1) ||| (v >>> 7)
  { res := res, flags := shiftFlags res (v.extractLsb' 7 1) }

/-- RRC (R96). -/
def rrcOut (v : Byte) : Out8 :=
  let res := (v >>> 1) ||| (v <<< 7)
  { res := res, flags := shiftFlags res (v.extractLsb' 0 1) }

/-- RL (R97). -/
def rlOut (cin : BitVec 1) (v : Byte) : Out8 :=
  let res := (v <<< 1) ||| carryByte cin
  { res := res, flags := shiftFlags res (v.extractLsb' 7 1) }

/-- RR (R98). -/
def rrOut (cin : BitVec 1) (v : Byte) : Out8 :=
  let res := (v >>> 1) ||| (carryByte cin <<< 7)
  { res := res, flags := shiftFlags res (v.extractLsb' 0 1) }

/-- SLA (R99). -/
def slaOut (v : Byte) : Out8 :=
  let res := v <<< 1
  { res := res, flags := shiftFlags res (v.extractLsb' 7 1) }

/-- SRA (R100): bit 7 is kept. -/
def sraOut (v : Byte) : Out8 :=
  let res := (v &&& 0x80) ||| (v >>> 1)
  { res := res, flags := shiftFlags res (v.extractLsb' 0 1) }

/-- SRL (R101). -/
def srlOut (v : Byte) : Out8 :=
  let res := v >>> 1
  { res := res, flags := shiftFlags res (v.extractLsb' 0 1) }

/-- SLL (R102): bit 0 is forced to one. -/
def sllOut (v : Byte) : Out8 :=
  let res := (v <<< 1) ||| 0x01
  { res := res, flags := shiftFlags res (v.extractLsb' 7 1) }

/-! ### The operations on a register -/

/-- A rotate or shift of a register (R95 to R102). -/
def rotateReg (out : Byte → Out8) (r : Reg7) (s : State) : State := putOut8 r (out (reg8 r s)) s

/-- `BIT b,r` (R103): only `F` is written. -/
def testBitOf (b : Fin 8) (r : Reg7) (s : State) : State := setFlags (bitFlags s.f (reg8 r s) b) s

/-- `RES b,r` (R104): `F` is not written. -/
def resetBitOf (b : Fin 8) (r : Reg7) (s : State) : State := setReg8 r (reg8 r s &&& ~~~bitMask b) s

/-- `SET b,r` (R105): `F` is not written. -/
def setBitOf (b : Fin 8) (r : Reg7) (s : State) : State := setReg8 r (reg8 r s ||| bitMask b) s

/-! ### One meaning per instruction -/

/-- `RLC B`, opcode 136. -/
def execRlcB (s : State) : Result := .next (rotateReg rlcOut .b s)

/-- `RLC C`, opcode 137. -/
def execRlcC (s : State) : Result := .next (rotateReg rlcOut .c s)

/-- `RLC D`, opcode 138. -/
def execRlcD (s : State) : Result := .next (rotateReg rlcOut .d s)

/-- `RLC E`, opcode 139. -/
def execRlcE (s : State) : Result := .next (rotateReg rlcOut .e s)

/-- `RLC H`, opcode 140. -/
def execRlcH (s : State) : Result := .next (rotateReg rlcOut .h s)

/-- `RLC L`, opcode 141. -/
def execRlcL (s : State) : Result := .next (rotateReg rlcOut .l s)

/-- `RLC A`, opcode 142. -/
def execRlcA (s : State) : Result := .next (rotateReg rlcOut .a s)

/-- `RRC B`, opcode 143. -/
def execRrcB (s : State) : Result := .next (rotateReg rrcOut .b s)

/-- `RRC C`, opcode 144. -/
def execRrcC (s : State) : Result := .next (rotateReg rrcOut .c s)

/-- `RRC D`, opcode 145. -/
def execRrcD (s : State) : Result := .next (rotateReg rrcOut .d s)

/-- `RRC E`, opcode 146. -/
def execRrcE (s : State) : Result := .next (rotateReg rrcOut .e s)

/-- `RRC H`, opcode 147. -/
def execRrcH (s : State) : Result := .next (rotateReg rrcOut .h s)

/-- `RRC L`, opcode 148. -/
def execRrcL (s : State) : Result := .next (rotateReg rrcOut .l s)

/-- `RRC A`, opcode 149. -/
def execRrcA (s : State) : Result := .next (rotateReg rrcOut .a s)

/-- `RL B`, opcode 150. -/
def execRlB (s : State) : Result := .next (rotateReg (rlOut (carryIn s)) .b s)

/-- `RL C`, opcode 151. -/
def execRlC (s : State) : Result := .next (rotateReg (rlOut (carryIn s)) .c s)

/-- `RL D`, opcode 152. -/
def execRlD (s : State) : Result := .next (rotateReg (rlOut (carryIn s)) .d s)

/-- `RL E`, opcode 153. -/
def execRlE (s : State) : Result := .next (rotateReg (rlOut (carryIn s)) .e s)

/-- `RL H`, opcode 154. -/
def execRlH (s : State) : Result := .next (rotateReg (rlOut (carryIn s)) .h s)

/-- `RL L`, opcode 155. -/
def execRlL (s : State) : Result := .next (rotateReg (rlOut (carryIn s)) .l s)

/-- `RL A`, opcode 156. -/
def execRlA (s : State) : Result := .next (rotateReg (rlOut (carryIn s)) .a s)

/-- `RR B`, opcode 157. -/
def execRrB (s : State) : Result := .next (rotateReg (rrOut (carryIn s)) .b s)

/-- `RR C`, opcode 158. -/
def execRrC (s : State) : Result := .next (rotateReg (rrOut (carryIn s)) .c s)

/-- `RR D`, opcode 159. -/
def execRrD (s : State) : Result := .next (rotateReg (rrOut (carryIn s)) .d s)

/-- `RR E`, opcode 160. -/
def execRrE (s : State) : Result := .next (rotateReg (rrOut (carryIn s)) .e s)

/-- `RR H`, opcode 161. -/
def execRrH (s : State) : Result := .next (rotateReg (rrOut (carryIn s)) .h s)

/-- `RR L`, opcode 162. -/
def execRrL (s : State) : Result := .next (rotateReg (rrOut (carryIn s)) .l s)

/-- `RR A`, opcode 163. -/
def execRrA (s : State) : Result := .next (rotateReg (rrOut (carryIn s)) .a s)

/-- `SLA B`, opcode 164. -/
def execSlaB (s : State) : Result := .next (rotateReg slaOut .b s)

/-- `SLA C`, opcode 165. -/
def execSlaC (s : State) : Result := .next (rotateReg slaOut .c s)

/-- `SLA D`, opcode 166. -/
def execSlaD (s : State) : Result := .next (rotateReg slaOut .d s)

/-- `SLA E`, opcode 167. -/
def execSlaE (s : State) : Result := .next (rotateReg slaOut .e s)

/-- `SLA H`, opcode 168. -/
def execSlaH (s : State) : Result := .next (rotateReg slaOut .h s)

/-- `SLA L`, opcode 169. -/
def execSlaL (s : State) : Result := .next (rotateReg slaOut .l s)

/-- `SLA A`, opcode 170. -/
def execSlaA (s : State) : Result := .next (rotateReg slaOut .a s)

/-- `SRA B`, opcode 171. -/
def execSraB (s : State) : Result := .next (rotateReg sraOut .b s)

/-- `SRA C`, opcode 172. -/
def execSraC (s : State) : Result := .next (rotateReg sraOut .c s)

/-- `SRA D`, opcode 173. -/
def execSraD (s : State) : Result := .next (rotateReg sraOut .d s)

/-- `SRA E`, opcode 174. -/
def execSraE (s : State) : Result := .next (rotateReg sraOut .e s)

/-- `SRA H`, opcode 175. -/
def execSraH (s : State) : Result := .next (rotateReg sraOut .h s)

/-- `SRA L`, opcode 176. -/
def execSraL (s : State) : Result := .next (rotateReg sraOut .l s)

/-- `SRA A`, opcode 177. -/
def execSraA (s : State) : Result := .next (rotateReg sraOut .a s)

/-- `SRL B`, opcode 178. -/
def execSrlB (s : State) : Result := .next (rotateReg srlOut .b s)

/-- `SRL C`, opcode 179. -/
def execSrlC (s : State) : Result := .next (rotateReg srlOut .c s)

/-- `SRL D`, opcode 180. -/
def execSrlD (s : State) : Result := .next (rotateReg srlOut .d s)

/-- `SRL E`, opcode 181. -/
def execSrlE (s : State) : Result := .next (rotateReg srlOut .e s)

/-- `SRL H`, opcode 182. -/
def execSrlH (s : State) : Result := .next (rotateReg srlOut .h s)

/-- `SRL L`, opcode 183. -/
def execSrlL (s : State) : Result := .next (rotateReg srlOut .l s)

/-- `SRL A`, opcode 184. -/
def execSrlA (s : State) : Result := .next (rotateReg srlOut .a s)

/-- `SLL C`, opcode 185. -/
def execSllC (s : State) : Result := .next (rotateReg sllOut .c s)

/-- `SLL D`, opcode 186. -/
def execSllD (s : State) : Result := .next (rotateReg sllOut .d s)

/-- `SLL E`, opcode 187. -/
def execSllE (s : State) : Result := .next (rotateReg sllOut .e s)

/-- `SLL H`, opcode 188. -/
def execSllH (s : State) : Result := .next (rotateReg sllOut .h s)

/-- `SLL L`, opcode 189. -/
def execSllL (s : State) : Result := .next (rotateReg sllOut .l s)

/-- `SLL A`, opcode 190. -/
def execSllA (s : State) : Result := .next (rotateReg sllOut .a s)

/-- `SLL B`, opcode 191. -/
def execSllB (s : State) : Result := .next (rotateReg sllOut .b s)

/-- `BIT 0,B`, opcode 192. -/
def execBit0B (s : State) : Result := .next (testBitOf 0 .b s)

/-- `BIT 0,C`, opcode 193. -/
def execBit0C (s : State) : Result := .next (testBitOf 0 .c s)

/-- `BIT 0,D`, opcode 194. -/
def execBit0D (s : State) : Result := .next (testBitOf 0 .d s)

/-- `BIT 0,E`, opcode 195. -/
def execBit0E (s : State) : Result := .next (testBitOf 0 .e s)

/-- `BIT 0,H`, opcode 196. -/
def execBit0H (s : State) : Result := .next (testBitOf 0 .h s)

/-- `BIT 0,L`, opcode 197. -/
def execBit0L (s : State) : Result := .next (testBitOf 0 .l s)

/-- `BIT 0,A`, opcode 198. -/
def execBit0A (s : State) : Result := .next (testBitOf 0 .a s)

/-- `BIT 1,B`, opcode 199. -/
def execBit1B (s : State) : Result := .next (testBitOf 1 .b s)

/-- `BIT 1,C`, opcode 200. -/
def execBit1C (s : State) : Result := .next (testBitOf 1 .c s)

/-- `BIT 1,D`, opcode 201. -/
def execBit1D (s : State) : Result := .next (testBitOf 1 .d s)

/-- `BIT 1,E`, opcode 202. -/
def execBit1E (s : State) : Result := .next (testBitOf 1 .e s)

/-- `BIT 1,H`, opcode 203. -/
def execBit1H (s : State) : Result := .next (testBitOf 1 .h s)

/-- `BIT 1,L`, opcode 204. -/
def execBit1L (s : State) : Result := .next (testBitOf 1 .l s)

/-- `BIT 1,A`, opcode 205. -/
def execBit1A (s : State) : Result := .next (testBitOf 1 .a s)

/-- `BIT 2,B`, opcode 206. -/
def execBit2B (s : State) : Result := .next (testBitOf 2 .b s)

/-- `BIT 2,C`, opcode 207. -/
def execBit2C (s : State) : Result := .next (testBitOf 2 .c s)

/-- `BIT 2,D`, opcode 208. -/
def execBit2D (s : State) : Result := .next (testBitOf 2 .d s)

/-- `BIT 2,E`, opcode 209. -/
def execBit2E (s : State) : Result := .next (testBitOf 2 .e s)

/-- `BIT 2,H`, opcode 210. -/
def execBit2H (s : State) : Result := .next (testBitOf 2 .h s)

/-- `BIT 2,L`, opcode 211. -/
def execBit2L (s : State) : Result := .next (testBitOf 2 .l s)

/-- `BIT 2,A`, opcode 212. -/
def execBit2A (s : State) : Result := .next (testBitOf 2 .a s)

/-- `BIT 3,B`, opcode 213. -/
def execBit3B (s : State) : Result := .next (testBitOf 3 .b s)

/-- `BIT 3,C`, opcode 214. -/
def execBit3C (s : State) : Result := .next (testBitOf 3 .c s)

/-- `BIT 3,D`, opcode 215. -/
def execBit3D (s : State) : Result := .next (testBitOf 3 .d s)

/-- `BIT 3,E`, opcode 216. -/
def execBit3E (s : State) : Result := .next (testBitOf 3 .e s)

/-- `BIT 3,H`, opcode 217. -/
def execBit3H (s : State) : Result := .next (testBitOf 3 .h s)

/-- `BIT 3,L`, opcode 218. -/
def execBit3L (s : State) : Result := .next (testBitOf 3 .l s)

/-- `BIT 3,A`, opcode 219. -/
def execBit3A (s : State) : Result := .next (testBitOf 3 .a s)

/-- `BIT 4,B`, opcode 220. -/
def execBit4B (s : State) : Result := .next (testBitOf 4 .b s)

/-- `BIT 4,C`, opcode 221. -/
def execBit4C (s : State) : Result := .next (testBitOf 4 .c s)

/-- `BIT 4,D`, opcode 222. -/
def execBit4D (s : State) : Result := .next (testBitOf 4 .d s)

/-- `BIT 4,E`, opcode 223. -/
def execBit4E (s : State) : Result := .next (testBitOf 4 .e s)

/-- `BIT 4,H`, opcode 224. -/
def execBit4H (s : State) : Result := .next (testBitOf 4 .h s)

/-- `BIT 4,L`, opcode 225. -/
def execBit4L (s : State) : Result := .next (testBitOf 4 .l s)

/-- `BIT 4,A`, opcode 226. -/
def execBit4A (s : State) : Result := .next (testBitOf 4 .a s)

/-- `BIT 5,B`, opcode 227. -/
def execBit5B (s : State) : Result := .next (testBitOf 5 .b s)

/-- `BIT 5,C`, opcode 228. -/
def execBit5C (s : State) : Result := .next (testBitOf 5 .c s)

/-- `BIT 5,D`, opcode 229. -/
def execBit5D (s : State) : Result := .next (testBitOf 5 .d s)

/-- `BIT 5,E`, opcode 230. -/
def execBit5E (s : State) : Result := .next (testBitOf 5 .e s)

/-- `BIT 5,H`, opcode 231. -/
def execBit5H (s : State) : Result := .next (testBitOf 5 .h s)

/-- `BIT 5,L`, opcode 232. -/
def execBit5L (s : State) : Result := .next (testBitOf 5 .l s)

/-- `BIT 5,A`, opcode 233. -/
def execBit5A (s : State) : Result := .next (testBitOf 5 .a s)

/-- `BIT 6,B`, opcode 234. -/
def execBit6B (s : State) : Result := .next (testBitOf 6 .b s)

/-- `BIT 6,C`, opcode 235. -/
def execBit6C (s : State) : Result := .next (testBitOf 6 .c s)

/-- `BIT 6,D`, opcode 236. -/
def execBit6D (s : State) : Result := .next (testBitOf 6 .d s)

/-- `BIT 6,E`, opcode 237. -/
def execBit6E (s : State) : Result := .next (testBitOf 6 .e s)

/-- `BIT 6,H`, opcode 238. -/
def execBit6H (s : State) : Result := .next (testBitOf 6 .h s)

/-- `BIT 6,L`, opcode 239. -/
def execBit6L (s : State) : Result := .next (testBitOf 6 .l s)

/-- `BIT 6,A`, opcode 240. -/
def execBit6A (s : State) : Result := .next (testBitOf 6 .a s)

/-- `BIT 7,B`, opcode 241. -/
def execBit7B (s : State) : Result := .next (testBitOf 7 .b s)

/-- `BIT 7,C`, opcode 242. -/
def execBit7C (s : State) : Result := .next (testBitOf 7 .c s)

/-- `BIT 7,D`, opcode 243. -/
def execBit7D (s : State) : Result := .next (testBitOf 7 .d s)

/-- `BIT 7,E`, opcode 244. -/
def execBit7E (s : State) : Result := .next (testBitOf 7 .e s)

/-- `BIT 7,H`, opcode 245. -/
def execBit7H (s : State) : Result := .next (testBitOf 7 .h s)

/-- `BIT 7,L`, opcode 246. -/
def execBit7L (s : State) : Result := .next (testBitOf 7 .l s)

/-- `BIT 7,A`, opcode 247. -/
def execBit7A (s : State) : Result := .next (testBitOf 7 .a s)

/-- `RES 0,B`, opcode 248. -/
def execRes0B (s : State) : Result := .next (resetBitOf 0 .b s)

/-- `RES 0,C`, opcode 249. -/
def execRes0C (s : State) : Result := .next (resetBitOf 0 .c s)

/-- `RES 0,D`, opcode 250. -/
def execRes0D (s : State) : Result := .next (resetBitOf 0 .d s)

/-- `RES 0,E`, opcode 251. -/
def execRes0E (s : State) : Result := .next (resetBitOf 0 .e s)

/-- `RES 0,H`, opcode 252. -/
def execRes0H (s : State) : Result := .next (resetBitOf 0 .h s)

/-- `RES 0,L`, opcode 253. -/
def execRes0L (s : State) : Result := .next (resetBitOf 0 .l s)

/-- `RES 0,A`, opcode 254. -/
def execRes0A (s : State) : Result := .next (resetBitOf 0 .a s)

/-- `RES 1,B`, opcode 255. -/
def execRes1B (s : State) : Result := .next (resetBitOf 1 .b s)

/-- `RES 1,C`, opcode 256. -/
def execRes1C (s : State) : Result := .next (resetBitOf 1 .c s)

/-- `RES 1,D`, opcode 257. -/
def execRes1D (s : State) : Result := .next (resetBitOf 1 .d s)

/-- `RES 1,E`, opcode 258. -/
def execRes1E (s : State) : Result := .next (resetBitOf 1 .e s)

/-- `RES 1,H`, opcode 259. -/
def execRes1H (s : State) : Result := .next (resetBitOf 1 .h s)

/-- `RES 1,L`, opcode 260. -/
def execRes1L (s : State) : Result := .next (resetBitOf 1 .l s)

/-- `RES 1,A`, opcode 261. -/
def execRes1A (s : State) : Result := .next (resetBitOf 1 .a s)

/-- `RES 2,B`, opcode 262. -/
def execRes2B (s : State) : Result := .next (resetBitOf 2 .b s)

/-- `RES 2,C`, opcode 263. -/
def execRes2C (s : State) : Result := .next (resetBitOf 2 .c s)

/-- `RES 2,D`, opcode 264. -/
def execRes2D (s : State) : Result := .next (resetBitOf 2 .d s)

/-- `RES 2,E`, opcode 265. -/
def execRes2E (s : State) : Result := .next (resetBitOf 2 .e s)

/-- `RES 2,H`, opcode 266. -/
def execRes2H (s : State) : Result := .next (resetBitOf 2 .h s)

/-- `RES 2,L`, opcode 267. -/
def execRes2L (s : State) : Result := .next (resetBitOf 2 .l s)

/-- `RES 2,A`, opcode 268. -/
def execRes2A (s : State) : Result := .next (resetBitOf 2 .a s)

/-- `RES 3,B`, opcode 269. -/
def execRes3B (s : State) : Result := .next (resetBitOf 3 .b s)

/-- `RES 3,C`, opcode 270. -/
def execRes3C (s : State) : Result := .next (resetBitOf 3 .c s)

/-- `RES 3,D`, opcode 271. -/
def execRes3D (s : State) : Result := .next (resetBitOf 3 .d s)

/-- `RES 3,E`, opcode 272. -/
def execRes3E (s : State) : Result := .next (resetBitOf 3 .e s)

/-- `RES 3,H`, opcode 273. -/
def execRes3H (s : State) : Result := .next (resetBitOf 3 .h s)

/-- `RES 3,L`, opcode 274. -/
def execRes3L (s : State) : Result := .next (resetBitOf 3 .l s)

/-- `RES 3,A`, opcode 275. -/
def execRes3A (s : State) : Result := .next (resetBitOf 3 .a s)

/-- `RES 4,B`, opcode 276. -/
def execRes4B (s : State) : Result := .next (resetBitOf 4 .b s)

/-- `RES 4,C`, opcode 277. -/
def execRes4C (s : State) : Result := .next (resetBitOf 4 .c s)

/-- `RES 4,D`, opcode 278. -/
def execRes4D (s : State) : Result := .next (resetBitOf 4 .d s)

/-- `RES 4,E`, opcode 279. -/
def execRes4E (s : State) : Result := .next (resetBitOf 4 .e s)

/-- `RES 4,H`, opcode 280. -/
def execRes4H (s : State) : Result := .next (resetBitOf 4 .h s)

/-- `RES 4,L`, opcode 281. -/
def execRes4L (s : State) : Result := .next (resetBitOf 4 .l s)

/-- `RES 4,A`, opcode 282. -/
def execRes4A (s : State) : Result := .next (resetBitOf 4 .a s)

/-- `RES 5,B`, opcode 283. -/
def execRes5B (s : State) : Result := .next (resetBitOf 5 .b s)

/-- `RES 5,C`, opcode 284. -/
def execRes5C (s : State) : Result := .next (resetBitOf 5 .c s)

/-- `RES 5,D`, opcode 285. -/
def execRes5D (s : State) : Result := .next (resetBitOf 5 .d s)

/-- `RES 5,E`, opcode 286. -/
def execRes5E (s : State) : Result := .next (resetBitOf 5 .e s)

/-- `RES 5,H`, opcode 287. -/
def execRes5H (s : State) : Result := .next (resetBitOf 5 .h s)

/-- `RES 5,L`, opcode 288. -/
def execRes5L (s : State) : Result := .next (resetBitOf 5 .l s)

/-- `RES 5,A`, opcode 289. -/
def execRes5A (s : State) : Result := .next (resetBitOf 5 .a s)

/-- `RES 6,B`, opcode 290. -/
def execRes6B (s : State) : Result := .next (resetBitOf 6 .b s)

/-- `RES 6,C`, opcode 291. -/
def execRes6C (s : State) : Result := .next (resetBitOf 6 .c s)

/-- `RES 6,D`, opcode 292. -/
def execRes6D (s : State) : Result := .next (resetBitOf 6 .d s)

/-- `RES 6,E`, opcode 293. -/
def execRes6E (s : State) : Result := .next (resetBitOf 6 .e s)

/-- `RES 6,H`, opcode 294. -/
def execRes6H (s : State) : Result := .next (resetBitOf 6 .h s)

/-- `RES 6,L`, opcode 295. -/
def execRes6L (s : State) : Result := .next (resetBitOf 6 .l s)

/-- `RES 6,A`, opcode 296. -/
def execRes6A (s : State) : Result := .next (resetBitOf 6 .a s)

/-- `RES 7,B`, opcode 297. -/
def execRes7B (s : State) : Result := .next (resetBitOf 7 .b s)

/-- `RES 7,C`, opcode 298. -/
def execRes7C (s : State) : Result := .next (resetBitOf 7 .c s)

/-- `RES 7,D`, opcode 299. -/
def execRes7D (s : State) : Result := .next (resetBitOf 7 .d s)

/-- `RES 7,E`, opcode 300. -/
def execRes7E (s : State) : Result := .next (resetBitOf 7 .e s)

/-- `RES 7,H`, opcode 301. -/
def execRes7H (s : State) : Result := .next (resetBitOf 7 .h s)

/-- `RES 7,L`, opcode 302. -/
def execRes7L (s : State) : Result := .next (resetBitOf 7 .l s)

/-- `RES 7,A`, opcode 303. -/
def execRes7A (s : State) : Result := .next (resetBitOf 7 .a s)

/-- `SET 0,B`, opcode 304. -/
def execSet0B (s : State) : Result := .next (setBitOf 0 .b s)

/-- `SET 0,C`, opcode 305. -/
def execSet0C (s : State) : Result := .next (setBitOf 0 .c s)

/-- `SET 0,D`, opcode 306. -/
def execSet0D (s : State) : Result := .next (setBitOf 0 .d s)

/-- `SET 0,E`, opcode 307. -/
def execSet0E (s : State) : Result := .next (setBitOf 0 .e s)

/-- `SET 0,H`, opcode 308. -/
def execSet0H (s : State) : Result := .next (setBitOf 0 .h s)

/-- `SET 0,L`, opcode 309. -/
def execSet0L (s : State) : Result := .next (setBitOf 0 .l s)

/-- `SET 0,A`, opcode 310. -/
def execSet0A (s : State) : Result := .next (setBitOf 0 .a s)

/-- `SET 1,B`, opcode 311. -/
def execSet1B (s : State) : Result := .next (setBitOf 1 .b s)

/-- `SET 1,C`, opcode 312. -/
def execSet1C (s : State) : Result := .next (setBitOf 1 .c s)

/-- `SET 1,D`, opcode 313. -/
def execSet1D (s : State) : Result := .next (setBitOf 1 .d s)

/-- `SET 1,E`, opcode 314. -/
def execSet1E (s : State) : Result := .next (setBitOf 1 .e s)

/-- `SET 1,H`, opcode 315. -/
def execSet1H (s : State) : Result := .next (setBitOf 1 .h s)

/-- `SET 1,L`, opcode 316. -/
def execSet1L (s : State) : Result := .next (setBitOf 1 .l s)

/-- `SET 1,A`, opcode 317. -/
def execSet1A (s : State) : Result := .next (setBitOf 1 .a s)

/-- `SET 2,B`, opcode 318. -/
def execSet2B (s : State) : Result := .next (setBitOf 2 .b s)

/-- `SET 2,C`, opcode 319. -/
def execSet2C (s : State) : Result := .next (setBitOf 2 .c s)

/-- `SET 2,D`, opcode 320. -/
def execSet2D (s : State) : Result := .next (setBitOf 2 .d s)

/-- `SET 2,E`, opcode 321. -/
def execSet2E (s : State) : Result := .next (setBitOf 2 .e s)

/-- `SET 2,H`, opcode 322. -/
def execSet2H (s : State) : Result := .next (setBitOf 2 .h s)

/-- `SET 2,L`, opcode 323. -/
def execSet2L (s : State) : Result := .next (setBitOf 2 .l s)

/-- `SET 2,A`, opcode 324. -/
def execSet2A (s : State) : Result := .next (setBitOf 2 .a s)

/-- `SET 3,B`, opcode 325. -/
def execSet3B (s : State) : Result := .next (setBitOf 3 .b s)

/-- `SET 3,C`, opcode 326. -/
def execSet3C (s : State) : Result := .next (setBitOf 3 .c s)

/-- `SET 3,D`, opcode 327. -/
def execSet3D (s : State) : Result := .next (setBitOf 3 .d s)

/-- `SET 3,E`, opcode 328. -/
def execSet3E (s : State) : Result := .next (setBitOf 3 .e s)

/-- `SET 3,H`, opcode 329. -/
def execSet3H (s : State) : Result := .next (setBitOf 3 .h s)

/-- `SET 3,L`, opcode 330. -/
def execSet3L (s : State) : Result := .next (setBitOf 3 .l s)

/-- `SET 3,A`, opcode 331. -/
def execSet3A (s : State) : Result := .next (setBitOf 3 .a s)

/-- `SET 4,B`, opcode 332. -/
def execSet4B (s : State) : Result := .next (setBitOf 4 .b s)

/-- `SET 4,C`, opcode 333. -/
def execSet4C (s : State) : Result := .next (setBitOf 4 .c s)

/-- `SET 4,D`, opcode 334. -/
def execSet4D (s : State) : Result := .next (setBitOf 4 .d s)

/-- `SET 4,E`, opcode 335. -/
def execSet4E (s : State) : Result := .next (setBitOf 4 .e s)

/-- `SET 4,H`, opcode 336. -/
def execSet4H (s : State) : Result := .next (setBitOf 4 .h s)

/-- `SET 4,L`, opcode 337. -/
def execSet4L (s : State) : Result := .next (setBitOf 4 .l s)

/-- `SET 4,A`, opcode 338. -/
def execSet4A (s : State) : Result := .next (setBitOf 4 .a s)

/-- `SET 5,B`, opcode 339. -/
def execSet5B (s : State) : Result := .next (setBitOf 5 .b s)

/-- `SET 5,C`, opcode 340. -/
def execSet5C (s : State) : Result := .next (setBitOf 5 .c s)

/-- `SET 5,D`, opcode 341. -/
def execSet5D (s : State) : Result := .next (setBitOf 5 .d s)

/-- `SET 5,E`, opcode 342. -/
def execSet5E (s : State) : Result := .next (setBitOf 5 .e s)

/-- `SET 5,H`, opcode 343. -/
def execSet5H (s : State) : Result := .next (setBitOf 5 .h s)

/-- `SET 5,L`, opcode 344. -/
def execSet5L (s : State) : Result := .next (setBitOf 5 .l s)

/-- `SET 5,A`, opcode 345. -/
def execSet5A (s : State) : Result := .next (setBitOf 5 .a s)

/-- `SET 6,B`, opcode 346. -/
def execSet6B (s : State) : Result := .next (setBitOf 6 .b s)

/-- `SET 6,C`, opcode 347. -/
def execSet6C (s : State) : Result := .next (setBitOf 6 .c s)

/-- `SET 6,D`, opcode 348. -/
def execSet6D (s : State) : Result := .next (setBitOf 6 .d s)

/-- `SET 6,E`, opcode 349. -/
def execSet6E (s : State) : Result := .next (setBitOf 6 .e s)

/-- `SET 6,H`, opcode 350. -/
def execSet6H (s : State) : Result := .next (setBitOf 6 .h s)

/-- `SET 6,L`, opcode 351. -/
def execSet6L (s : State) : Result := .next (setBitOf 6 .l s)

/-- `SET 6,A`, opcode 352. -/
def execSet6A (s : State) : Result := .next (setBitOf 6 .a s)

/-- `SET 7,B`, opcode 353. -/
def execSet7B (s : State) : Result := .next (setBitOf 7 .b s)

/-- `SET 7,C`, opcode 354. -/
def execSet7C (s : State) : Result := .next (setBitOf 7 .c s)

/-- `SET 7,D`, opcode 355. -/
def execSet7D (s : State) : Result := .next (setBitOf 7 .d s)

/-- `SET 7,E`, opcode 356. -/
def execSet7E (s : State) : Result := .next (setBitOf 7 .e s)

/-- `SET 7,H`, opcode 357. -/
def execSet7H (s : State) : Result := .next (setBitOf 7 .h s)

/-- `SET 7,L`, opcode 358. -/
def execSet7L (s : State) : Result := .next (setBitOf 7 .l s)

/-- `SET 7,A`, opcode 359. -/
def execSet7A (s : State) : Result := .next (setBitOf 7 .a s)

end Sys2Proof.Machine
end

