-- ==== Sys2Proof/Machine/Loads8.lean ====
section
/-! DEFINITION. 8-bit loads (41_loads8.md): families 1 and 2. No load writes `F`. -/

namespace Sys2Proof.Machine

/-- `LD d,s` (R73). With `dst = src` nothing changes (30_encoding.md R52). -/
def loadReg (dst src : Reg7) (s : State) : State := setReg8 dst (reg8 src s) s

/-- `LD d,n` (R74). -/
def loadImm (dst : Reg7) (n : Byte) (s : State) : State := setReg8 dst n s

/-! ### One meaning per instruction -/

/-- `LD A,A`, opcode 0. -/
def execLdAA (s : State) : Result := .next (loadReg .a .a s)

/-- `LD A,B`, opcode 1. -/
def execLdAB (s : State) : Result := .next (loadReg .a .b s)

/-- `LD A,C`, opcode 2. -/
def execLdAC (s : State) : Result := .next (loadReg .a .c s)

/-- `LD A,D`, opcode 3. -/
def execLdAD (s : State) : Result := .next (loadReg .a .d s)

/-- `LD A,E`, opcode 4. -/
def execLdAE (s : State) : Result := .next (loadReg .a .e s)

/-- `LD A,H`, opcode 5. -/
def execLdAH (s : State) : Result := .next (loadReg .a .h s)

/-- `LD A,L`, opcode 6. -/
def execLdAL (s : State) : Result := .next (loadReg .a .l s)

/-- `LD B,A`, opcode 7. -/
def execLdBA (s : State) : Result := .next (loadReg .b .a s)

/-- `LD B,B`, opcode 8. -/
def execLdBB (s : State) : Result := .next (loadReg .b .b s)

/-- `LD B,C`, opcode 9. -/
def execLdBC (s : State) : Result := .next (loadReg .b .c s)

/-- `LD B,D`, opcode 10. -/
def execLdBD (s : State) : Result := .next (loadReg .b .d s)

/-- `LD B,E`, opcode 11. -/
def execLdBE (s : State) : Result := .next (loadReg .b .e s)

/-- `LD B,H`, opcode 12. -/
def execLdBH (s : State) : Result := .next (loadReg .b .h s)

/-- `LD B,L`, opcode 13. -/
def execLdBL (s : State) : Result := .next (loadReg .b .l s)

/-- `LD C,A`, opcode 14. -/
def execLdCA (s : State) : Result := .next (loadReg .c .a s)

/-- `LD C,B`, opcode 15. -/
def execLdCB (s : State) : Result := .next (loadReg .c .b s)

/-- `LD C,C`, opcode 16. -/
def execLdCC (s : State) : Result := .next (loadReg .c .c s)

/-- `LD C,D`, opcode 17. -/
def execLdCD (s : State) : Result := .next (loadReg .c .d s)

/-- `LD C,E`, opcode 18. -/
def execLdCE (s : State) : Result := .next (loadReg .c .e s)

/-- `LD C,H`, opcode 19. -/
def execLdCH (s : State) : Result := .next (loadReg .c .h s)

/-- `LD C,L`, opcode 20. -/
def execLdCL (s : State) : Result := .next (loadReg .c .l s)

/-- `LD D,A`, opcode 21. -/
def execLdDA (s : State) : Result := .next (loadReg .d .a s)

/-- `LD D,B`, opcode 22. -/
def execLdDB (s : State) : Result := .next (loadReg .d .b s)

/-- `LD D,C`, opcode 23. -/
def execLdDC (s : State) : Result := .next (loadReg .d .c s)

/-- `LD D,D`, opcode 24. -/
def execLdDD (s : State) : Result := .next (loadReg .d .d s)

/-- `LD D,E`, opcode 25. -/
def execLdDE (s : State) : Result := .next (loadReg .d .e s)

/-- `LD D,H`, opcode 26. -/
def execLdDH (s : State) : Result := .next (loadReg .d .h s)

/-- `LD D,L`, opcode 27. -/
def execLdDL (s : State) : Result := .next (loadReg .d .l s)

/-- `LD E,A`, opcode 28. -/
def execLdEA (s : State) : Result := .next (loadReg .e .a s)

/-- `LD E,B`, opcode 29. -/
def execLdEB (s : State) : Result := .next (loadReg .e .b s)

/-- `LD E,C`, opcode 30. -/
def execLdEC (s : State) : Result := .next (loadReg .e .c s)

/-- `LD E,D`, opcode 31. -/
def execLdED (s : State) : Result := .next (loadReg .e .d s)

/-- `LD E,E`, opcode 32. -/
def execLdEE (s : State) : Result := .next (loadReg .e .e s)

/-- `LD E,H`, opcode 33. -/
def execLdEH (s : State) : Result := .next (loadReg .e .h s)

/-- `LD E,L`, opcode 34. -/
def execLdEL (s : State) : Result := .next (loadReg .e .l s)

/-- `LD H,A`, opcode 35. -/
def execLdHA (s : State) : Result := .next (loadReg .h .a s)

/-- `LD H,B`, opcode 36. -/
def execLdHB (s : State) : Result := .next (loadReg .h .b s)

/-- `LD H,C`, opcode 37. -/
def execLdHC (s : State) : Result := .next (loadReg .h .c s)

/-- `LD H,D`, opcode 38. -/
def execLdHD (s : State) : Result := .next (loadReg .h .d s)

/-- `LD H,E`, opcode 39. -/
def execLdHE (s : State) : Result := .next (loadReg .h .e s)

/-- `LD H,H`, opcode 40. -/
def execLdHH (s : State) : Result := .next (loadReg .h .h s)

/-- `LD H,L`, opcode 41. -/
def execLdHL (s : State) : Result := .next (loadReg .h .l s)

/-- `LD L,A`, opcode 42. -/
def execLdLA (s : State) : Result := .next (loadReg .l .a s)

/-- `LD L,B`, opcode 43. -/
def execLdLB (s : State) : Result := .next (loadReg .l .b s)

/-- `LD L,C`, opcode 44. -/
def execLdLC (s : State) : Result := .next (loadReg .l .c s)

/-- `LD L,D`, opcode 45. -/
def execLdLD (s : State) : Result := .next (loadReg .l .d s)

/-- `LD L,E`, opcode 46. -/
def execLdLE (s : State) : Result := .next (loadReg .l .e s)

/-- `LD L,H`, opcode 47. -/
def execLdLH (s : State) : Result := .next (loadReg .l .h s)

/-- `LD L,L`, opcode 48. -/
def execLdLL (s : State) : Result := .next (loadReg .l .l s)

/-- `LD A,n`, opcode 49. -/
def execLdAImm (n : Byte) (s : State) : Result := .next (loadImm .a n s)

/-- `LD B,n`, opcode 50. -/
def execLdBImm (n : Byte) (s : State) : Result := .next (loadImm .b n s)

/-- `LD C,n`, opcode 51. -/
def execLdCImm (n : Byte) (s : State) : Result := .next (loadImm .c n s)

/-- `LD D,n`, opcode 52. -/
def execLdDImm (n : Byte) (s : State) : Result := .next (loadImm .d n s)

/-- `LD E,n`, opcode 53. -/
def execLdEImm (n : Byte) (s : State) : Result := .next (loadImm .e n s)

/-- `LD H,n`, opcode 54. -/
def execLdHImm (n : Byte) (s : State) : Result := .next (loadImm .h n s)

/-- `LD L,n`, opcode 55. -/
def execLdLImm (n : Byte) (s : State) : Result := .next (loadImm .l n s)

end Sys2Proof.Machine
end

