-- ==== Sys2Proof/Machine/Misc.lean ====
section
/-! DEFINITION. Single-byte miscellaneous operations (43_misc.md): family 6. -/

namespace Sys2Proof.Machine

/-! ### Accumulator rotates -/

/-- The flags and result of a rotate of `A`, from its old value: the new value and the bit rotated out. -/
def rotateA (out : Byte → Byte × BitVec 1) (s : State) : State :=
  let o := out s.a
  putOut8 .a { res := o.1, flags := rotateAFlags s.f o.1 o.2 } s

/-- RLCA (R85). -/
def rlcaOut (v : Byte) : Byte × BitVec 1 := ((v <<< 1) ||| (v >>> 7), v.extractLsb' 7 1)

/-- RRCA (R86). -/
def rrcaOut (v : Byte) : Byte × BitVec 1 := ((v >>> 1) ||| (v <<< 7), v.extractLsb' 0 1)

/-- RLA (R87). -/
def rlaOut (cin : BitVec 1) (v : Byte) : Byte × BitVec 1 := ((v <<< 1) ||| carryByte cin, v.extractLsb' 7 1)

/-- RRA (R88). -/
def rraOut (cin : BitVec 1) (v : Byte) : Byte × BitVec 1 := ((v >>> 1) ||| (carryByte cin <<< 7), v.extractLsb' 0 1)

/-! ### The other operations -/

/-- DAA (R89). -/
def decimalAdjust (s : State) : State := putOut8 .a (daa8 s.a s.f) s

/-- CPL (R90). -/
def complementA (s : State) : State :=
  let res := s.a ^^^ 0xFF
  putOut8 .a { res := res, flags := cplFlags s.f res } s

/-- SCF (R91): `A` is not written. -/
def setCarry (s : State) : State := setFlags (scfFlags s.f s.a) s

/-- CCF (R92): `A` is not written. -/
def complementCarry (s : State) : State := setFlags (ccfFlags s.f s.a) s

/-- NEG (R93). -/
def negateA (s : State) : State := putOut8 .a (sub8 0 s.a 0) s

/-- NOP (R94): nothing is read or written. -/
def noOperation (s : State) : State := s

/-! ### One meaning per instruction -/

/-- `RLCA`, opcode 126. -/
def execRlca (s : State) : Result := .next (rotateA rlcaOut s)

/-- `RRCA`, opcode 127. -/
def execRrca (s : State) : Result := .next (rotateA rrcaOut s)

/-- `RLA`, opcode 128. -/
def execRla (s : State) : Result := .next (rotateA (rlaOut (carryIn s)) s)

/-- `RRA`, opcode 129. -/
def execRra (s : State) : Result := .next (rotateA (rraOut (carryIn s)) s)

/-- `DAA`, opcode 130. -/
def execDaa (s : State) : Result := .next (decimalAdjust s)

/-- `CPL`, opcode 131. -/
def execCpl (s : State) : Result := .next (complementA s)

/-- `SCF`, opcode 132. -/
def execScf (s : State) : Result := .next (setCarry s)

/-- `CCF`, opcode 133. -/
def execCcf (s : State) : Result := .next (complementCarry s)

/-- `NEG`, opcode 134. -/
def execNeg (s : State) : Result := .next (negateA s)

/-- `NOP`, opcode 135. -/
def execNop (s : State) : Result := .next (noOperation s)

end Sys2Proof.Machine
end

