-- ==== Sys2Proof/Machine/Pair16.lean ====
section
/-! DEFINITION. The 16-bit register-pair unit (45_pair16.md): families 10 to 15. -/

namespace Sys2Proof.Machine

/-- `INC p` (R106): no flags. -/
def incPair (p : Pair) (s : State) : State := setPair p (pair p s + 1) s

/-- `DEC p` (R107): no flags. -/
def decPair (p : Pair) (s : State) : State := setPair p (pair p s - 1) s

/-- `ADD HL,p` (R108). -/
def addHl (p : Pair) (s : State) : State := putOutHl (add16 s.f (pair .hl s) (pair p s)) s

/-- `ADC HL,p` (R112). -/
def adcHl (p : Pair) (s : State) : State := putOutHl (adc16 (pair .hl s) (pair p s) (carryIn s)) s

/-- `SBC HL,p` (R113). -/
def sbcHl (p : Pair) (s : State) : State := putOutHl (sbc16 (pair .hl s) (pair p s) (carryIn s)) s

/-- `EX DE,HL` (R109): all reads before all writes. -/
def exchangeDeHl (s : State) : State := { s with d := s.h, e := s.l, h := s.d, l := s.e }

/-- `LD SP,HL` (R110). -/
def loadSpHl (s : State) : State := setPair .sp (pair .hl s) s

/-- `LD p,nn` (R111). -/
def loadPairImm (p : Pair) (nn : Word) (s : State) : State := setPair p nn s

/-! ### One meaning per instruction -/

/-- `INC BC`, opcode 360. -/
def execIncBc (s : State) : Result := .next (incPair .bc s)

/-- `INC DE`, opcode 361. -/
def execIncDe (s : State) : Result := .next (incPair .de s)

/-- `INC HL`, opcode 362. -/
def execIncHl (s : State) : Result := .next (incPair .hl s)

/-- `INC SP`, opcode 363. -/
def execIncSp (s : State) : Result := .next (incPair .sp s)

/-- `DEC BC`, opcode 364. -/
def execDecBc (s : State) : Result := .next (decPair .bc s)

/-- `DEC DE`, opcode 365. -/
def execDecDe (s : State) : Result := .next (decPair .de s)

/-- `DEC HL`, opcode 366. -/
def execDecHl (s : State) : Result := .next (decPair .hl s)

/-- `DEC SP`, opcode 367. -/
def execDecSp (s : State) : Result := .next (decPair .sp s)

/-- `ADD HL,BC`, opcode 368. -/
def execAddHlBc (s : State) : Result := .next (addHl .bc s)

/-- `ADD HL,DE`, opcode 369. -/
def execAddHlDe (s : State) : Result := .next (addHl .de s)

/-- `ADD HL,HL`, opcode 370. -/
def execAddHlHl (s : State) : Result := .next (addHl .hl s)

/-- `ADD HL,SP`, opcode 371. -/
def execAddHlSp (s : State) : Result := .next (addHl .sp s)

/-- `EX DE,HL`, opcode 372. -/
def execExDeHl (s : State) : Result := .next (exchangeDeHl s)

/-- `LD SP,HL`, opcode 373. -/
def execLdSpHl (s : State) : Result := .next (loadSpHl s)

/-- `LD BC,nn`, opcode 374. -/
def execLdBcImm (nn : Word) (s : State) : Result := .next (loadPairImm .bc nn s)

/-- `LD DE,nn`, opcode 375. -/
def execLdDeImm (nn : Word) (s : State) : Result := .next (loadPairImm .de nn s)

/-- `LD HL,nn`, opcode 376. -/
def execLdHlImm (nn : Word) (s : State) : Result := .next (loadPairImm .hl nn s)

/-- `LD SP,nn`, opcode 377. -/
def execLdSpImm (nn : Word) (s : State) : Result := .next (loadPairImm .sp nn s)

/-- `ADC HL,BC`, opcode 378. -/
def execAdcHlBc (s : State) : Result := .next (adcHl .bc s)

/-- `ADC HL,DE`, opcode 379. -/
def execAdcHlDe (s : State) : Result := .next (adcHl .de s)

/-- `ADC HL,HL`, opcode 380. -/
def execAdcHlHl (s : State) : Result := .next (adcHl .hl s)

/-- `ADC HL,SP`, opcode 381. -/
def execAdcHlSp (s : State) : Result := .next (adcHl .sp s)

/-- `SBC HL,BC`, opcode 382. -/
def execSbcHlBc (s : State) : Result := .next (sbcHl .bc s)

/-- `SBC HL,DE`, opcode 383. -/
def execSbcHlDe (s : State) : Result := .next (sbcHl .de s)

/-- `SBC HL,HL`, opcode 384. -/
def execSbcHlHl (s : State) : Result := .next (sbcHl .hl s)

/-- `SBC HL,SP`, opcode 385. -/
def execSbcHlSp (s : State) : Result := .next (sbcHl .sp s)

end Sys2Proof.Machine
end

