-- ==== Sys2Proof/Machine/HostInterface.lean ====
section
/-! DEFINITION. The host interface of 60_exceptions.md R121: one execute, with its checks in the order of R119, and the
five operations. -/

namespace Sys2Proof.Machine

/-- One execute (60_exceptions.md R119): with the latch set there is no step (R116); else decode (30_encoding.md R49);
an out-of-range opcode follows `OOR_POLICY` (R115, R117); every other opcode performs its instruction's rule. -/
def execute (x : Presented) (s : State) : Result :=
  if s.fault.valid then .fault .latched
  else
    match decode s.params x with
    | .instr i => exec i s
    | .illegalOpcode o => .next (outOfRange o s)

/-- One host operation (60_exceptions.md R121). -/
def perform (op : HostOp) (s : State) : Result :=
  match op with
  | .reset => .next (hostReset s)
  | .loadState m => .next (loadImage m s)
  | .execute x => execute x s
  | .readState => .next (readState s)
  | .readFault => .next (readFault s)

end Sys2Proof.Machine
end

