-- ==== Sys2Proof/Machine/Step.lean ====
section
/-! DEFINITION. One step: the host's next operation is taken and performed (60_exceptions.md R121). -/

namespace Sys2Proof.Machine

/-- One step of the machine. With nothing presented the block does nothing on its own (10_state.md R19). -/
def step (s : State) : Host.Outcome State Fault Refusal :=
  match takeInput s with
  | none => .refused .nothingPresented
  | some (op, t) => perform op t

/-- The state in which the host presents the instruction of a table word next (log entries 2 and 10). -/
def State.withFetchWord (s : State) (nbits w : Nat) : State :=
  { s with inputs := .execute (presentedOfWord nbits w) :: s.inputs }

end Sys2Proof.Machine
end

