-- ==== Sys2Proof/Machine/HostSide.lean ====
section
/-! DEFINITION. The host-side functions 60_exceptions.md gives so that the source's evidence can be stated (R122 to R124):
running a sequence, its end image, the fingerprint and the comparator. No step depends on them. -/

namespace Sys2Proof.Machine

/-- The block after the host has presented one execute. While the latch is set the execute is not performed and nothing
changes (R116). -/
def presentOne (s : State) (x : Presented) : State :=
  match execute x s with
  | .next t => t
  | .fault _ => s
  | .refused _ => s

/-- `execute_sequence` (R122): every element in order, no early exit. -/
def presentAll : State → List Presented → State
  | s, [] => s
  | s, x :: rest => presentAll (presentOne s x) rest

/-- A run (R122) up to its end: reset, one `load_state`, then the sequence. -/
def runSequence (p : Params) (m : Image) (xs : List Presented) : State :=
  presentAll (loadImage m { State.reset with params := p }) xs

/-- The end image of a run: final only if a state was loaded and the latch is clear (R122). -/
def endImage (s : State) : Option Image := if s.loaded && !s.fault.valid then some (imageOf s) else none

/-- `SEEDS` (R124): seed 0 is all zero, and the registers of seed 1 are all 0xFF, its `SP` left open. -/
def seedsAllowed (seeds : Vector Image 8) : Bool :=
  seeds[0].toList == List.replicate 10 0x00 && seeds[1].toList.take 8 == List.replicate 8 0xFF

/-- The end images of a sequence from each seed in order, laid end to end; none if any run faults (R123). -/
def fingerprintFrom (p : Params) (xs : List Presented) : List Image → Option (List Byte)
  | [] => some []
  | m :: rest =>
    match endImage (runSequence p m xs), fingerprintFrom p xs rest with
    | some image, some tail => some (image.toList ++ tail)
    | _, _ => none

/-- `fingerprint(sequence)` (R123): the 80-byte digest over the eight seeds. -/
def fingerprint (p : Params) (seeds : Vector Image 8) (xs : List Presented) : Option (List Byte) :=
  fingerprintFrom p xs seeds.toList

/-- `states_equal(a, b, dead_flag_mask)` (R123), on two end states; none where one of them faulted. -/
def statesEqual (s t : State) (deadFlags : Byte) : Option Bool :=
  if (endImage s).isSome && (endImage t).isSome then
    some (s.a == t.a && s.b == t.b && s.c == t.c && s.d == t.d && s.e == t.e && s.h == t.h && s.l == t.l && s.sp == t.sp &&
      (s.f &&& ~~~deadFlags == t.f &&& ~~~deadFlags))
  else none

end Sys2Proof.Machine
end

