-- ==== Sys2Proof/Safety.lean ====
section
/-! DEFINITION. What counts as a safe run, in the terms claims use. -/

namespace Sys2Proof.Safety

open Sys2Proof.Machine

/-- The block can take an execute: its latch is clear (60_exceptions.md R116). -/
abbrev Live (s : State) : Prop := s.fault.valid = false

/-- A state whose image the host may take as a run's result (60_exceptions.md R122): everything presented, a state
loaded since reset, the latch clear. -/
abbrev Final (s : State) : Prop := s.inputs = [] ∧ s.loaded = true ∧ s.fault.valid = false

/-- The latch means what 10_state.md R23 and 60_exceptions.md R114 say: set only under the policy `fault`, by an opcode
outside the valid range. -/
abbrev LatchSound (s : State) : Prop :=
  s.fault.valid = true → s.params.oorPolicy = .fault ∧ numOpcodes ≤ s.fault.opcode.toNat

/-- The invariant of the machine: the parameters are those of 30_encoding.md R47 and the latch is sound. -/
abbrev BlockInv (s : State) : Prop := s.params.wellFormed = true ∧ LatchSound s

/-- The host's duties after reset (70_reset_and_hazards.md R131, 60_exceptions.md R121, R122): one full image, then
executes of valid opcodes. -/
def properRun : List HostOp → Bool
  | .loadState _ :: rest => rest.all fun op =>
      match op with
      | .execute x => x.wellFormed
      | .reset => false
      | .loadState _ => false
      | .readState => true
      | .readFault => true
  | _ => false

end Sys2Proof.Safety
end

