-- ==== Sys2Proof/Certificates/Slice0/Obligations.lean ====
section
/-! DEFINITION. The statements for the provers. The block's flags are stated from arithmetic (sums, differences, signed
ranges, parities), not from the tables the model computes them with. -/

namespace Sys2Proof.Claims

open Sys2Proof.Machine

/-! ### Vocabulary -/

/-- A flag byte from its eight fields, bit 7 first (10_state.md R16). -/
def flagByte (s z five h three pv n c : Bool) : Byte :=
  BitVec.ofNat 8 (128 * s.toNat + 64 * z.toNat + 32 * five.toNat + 16 * h.toNat + 8 * three.toNat + 4 * pv.toNat +
    2 * n.toNat + c.toNat)

/-- The number of one bits is even: the exclusive or of the eight bits is 0. -/
def evenParity (v : Byte) : Bool :=
  !(v.getLsbD 0 ^^ v.getLsbD 1 ^^ v.getLsbD 2 ^^ v.getLsbD 3 ^^ v.getLsbD 4 ^^ v.getLsbD 5 ^^ v.getLsbD 6 ^^ v.getLsbD 7)

/-- The flag C before an instruction. -/
def carry (s : State) : Bool := s.f.getLsbD 0

/-- The flags whose S, Z, 5 and 3 come from the result `r`. -/
def resultFlags (r : Byte) (h pv n c : Bool) : Byte :=
  flagByte (r.getLsbD 7) (r == 0) (r.getLsbD 5) h (r.getLsbD 3) pv n c

/-- The flags of a CB rotate or shift: parity and the bit shifted out. -/
def shiftedFlags (r : Byte) (out : Bool) : Byte := resultFlags r false (evenParity r) false out

/-- The flags of an accumulator rotate: S, Z and P/V kept. -/
def rotatedAFlags (s : State) (r : Byte) (out : Bool) : Byte :=
  flagByte (s.f.getLsbD 7) (s.f.getLsbD 6) (r.getLsbD 5) false (r.getLsbD 3) (s.f.getLsbD 2) false out

/-- The exact sum does not fit the signed range of a byte. -/
def overflows8 (x : Int) : Bool := decide (x < -128 ∨ 127 < x)

/-- The exact sum does not fit the signed range of a word. -/
def overflows16 (x : Int) : Bool := decide (x < -32768 ∨ 32767 < x)

/-- `a + b + c` modulo 256. -/
def sum8 (a b : Byte) (c : Bool) : Byte := BitVec.ofNat 8 (a.toNat + b.toNat + c.toNat)

/-- The flags of `a + b + c`. -/
def sumFlags8 (a b : Byte) (c : Bool) : Byte :=
  resultFlags (sum8 a b c) (decide (15 < a.toNat % 16 + b.toNat % 16 + c.toNat))
    (overflows8 (a.toInt + b.toInt + c.toNat)) false (decide (255 < a.toNat + b.toNat + c.toNat))

/-- `a - b - c` modulo 256. -/
def diff8 (a b : Byte) (c : Bool) : Byte := BitVec.ofInt 8 ((a.toNat : Int) - b.toNat - c.toNat)

/-- The flags of `a - b - c`. -/
def diffFlags8 (a b : Byte) (c : Bool) : Byte :=
  resultFlags (diff8 a b c) (decide (a.toNat % 16 < b.toNat % 16 + c.toNat))
    (overflows8 (a.toInt - b.toInt - c.toNat)) true (decide (a.toNat < b.toNat + c.toNat))

/-- `a + b + c` modulo 65536. -/
def sum16 (a b : Word) (c : Bool) : Word := BitVec.ofNat 16 (a.toNat + b.toNat + c.toNat)

/-- `a - b - c` modulo 65536. -/
def diff16 (a b : Word) (c : Bool) : Word := BitVec.ofInt 16 ((a.toNat : Int) - b.toNat - c.toNat)

/-- The flags of ADC HL and SBC HL: S, 5 and 3 are bits 15, 13 and 11 of the result. -/
def resultFlags16 (r : Word) (h pv n c : Bool) : Byte :=
  flagByte (r.getLsbD 15) (r == 0) (r.getLsbD 13) h (r.getLsbD 11) pv n c

/-- The 16-bit value of a pair, the first-named register high (10_state.md R15). -/
def pairValue (s : State) : Pair → Word
  | .bc => BitVec.ofNat 16 (256 * s.b.toNat + s.c.toNat)
  | .de => BitVec.ofNat 16 (256 * s.d.toNat + s.e.toNat)
  | .hl => BitVec.ofNat 16 (256 * s.h.toNat + s.l.toNat)
  | .sp => s.sp

/-- The high byte of a word. -/
def hi8 (v : Word) : Byte := BitVec.ofNat 8 (v.toNat / 256)

/-- The low byte of a word. -/
def lo8 (v : Word) : Byte := BitVec.ofNat 8 v.toNat

/-- The state with one 8-bit register at `v`, `F` at `f`, and everything else as in `s`. -/
def withReg (s : State) (r : Reg7) (v f : Byte) : State :=
  match r with
  | .a => { s with a := v, f := f }
  | .b => { s with b := v, f := f }
  | .c => { s with c := v, f := f }
  | .d => { s with d := v, f := f }
  | .e => { s with e := v, f := f }
  | .h => { s with h := v, f := f }
  | .l => { s with l := v, f := f }

/-- The value of an 8-bit operand register. -/
def regValue (s : State) : Reg7 → Byte
  | .a => s.a
  | .b => s.b
  | .c => s.c
  | .d => s.d
  | .e => s.e
  | .h => s.h
  | .l => s.l

/-- The state with one pair at `v` and everything else, `F` too, as in `s`. -/
def withPair (s : State) (p : Pair) (v : Word) : State :=
  match p with
  | .bc => { s with b := hi8 v, c := lo8 v }
  | .de => { s with d := hi8 v, e := lo8 v }
  | .hl => { s with h := hi8 v, l := lo8 v }
  | .sp => { s with sp := v }

/-- The opcode `o` is the instruction `i`, whatever the immediate. -/
def Encodes (p : Params) (o : Nat) (i : Instr) : Prop := ∀ imm : Word, decode p ⟨BitVec.ofNat 16 o, imm⟩ = .instr i

/-- Two states of the block agree: registers, latch and parameters; the host's lists and its load record may differ. -/
def SameBlock (s t : State) : Prop :=
  s.a = t.a ∧ s.f = t.f ∧ s.b = t.b ∧ s.c = t.c ∧ s.d = t.d ∧ s.e = t.e ∧ s.h = t.h ∧ s.l = t.l ∧ s.sp = t.sp ∧
    s.fault = t.fault ∧ s.params = t.params

/-- Everything an instruction has no access to is as before: the latch, the parameters, the load record, the host's
lists. -/
def SameControl (s t : State) : Prop :=
  t.fault = s.fault ∧ t.params = s.params ∧ t.loaded = s.loaded ∧ t.inputs = s.inputs ∧ t.replies = s.replies

/-- The instructions that write `SP` (10_state.md R20). -/
def WritesSp (i : Instr) : Prop := i = .incSp ∨ i = .decSp ∨ i = .ldSpHl ∨ ∃ nn, i = .ldSpImm nn

/-- The instructions that read `SP` (10_state.md R20). -/
def ReadsSp (i : Instr) : Prop := i = .addHlSp ∨ i = .adcHlSp ∨ i = .sbcHlSp ∨ i = .incSp ∨ i = .decSp

/-- Two-digit binary-coded decimal. -/
def bcd (n : Nat) : Byte := BitVec.ofNat 8 (16 * (n / 10) + n % 10)

/-- The state after `n` performances of one instruction; none if one of them stops. -/
def repeated (i : Instr) : Nat → State → Option State
  | 0, s => some s
  | n + 1, s =>
    match exec i s with
    | .next t => repeated i n t
    | .fault _ => none
    | .refused _ => none

end Sys2Proof.Claims

open Sys2Proof Sys2Proof.Machine Sys2Proof.Safety Sys2Proof.Claims

/-! ### Reset, steps and the exception -/

/-- 70_reset_and_hazards.md R129: reset clears the latch. The rest is the model's choice: the values of the registers and of
FAULT.opcode (log entry 1), that the load record is cleared (log entry 8), and that the parameters and the host's lists
stay (log entries 2, 6, 7). -/
def Obligations.HostResetClearsLatchAndRegisters : Prop :=
  ∀ s : State, ∃ t, perform .reset s = .next t ∧ t.fault = ⟨false, 0⟩ ∧ (∀ r, regValue t r = 0) ∧ t.f = 0 ∧ t.sp = 0 ∧
    t.loaded = false ∧ t.params = s.params ∧ t.inputs = s.inputs ∧ t.replies = s.replies

/-- 60_exceptions.md R119, 30_encoding.md R49: a presented execute of a valid opcode, with the latch clear, runs exactly
the decoded instruction; around it the step only takes the operation off the host's list (log entry 2). -/
def Obligations.StepRunsDecodedInstruction : Prop :=
  ∀ (s : State) (x : Presented) (rest : List HostOp) (i : Instr), s.inputs = .execute x :: rest → s.fault.valid = false →
    decode s.params x = .instr i → step s = exec i { s with inputs := rest }

/-- The model's choice, no rule of the spec: a table word is the pair of its bits 15 to 0 and 31 to 16 (log entry 10), and
`withFetchWord` puts it at the head of the host's list, so that the next step executes it (log entry 2). The spec says
only that an instruction is a pair (30_encoding.md R40). -/
def Obligations.FetchedWordIsPresentedNext : Prop :=
  ∀ (s : State) (nbits w : Nat), step (s.withFetchWord nbits w) = execute (presentedOfWord nbits w) s

/-- 60_exceptions.md R115: an out-of-range opcode under the policy `fault` sets the latch and writes nothing else. -/
def Obligations.IllegalOpcodeSetsOnlyTheLatch : Prop :=
  ∀ (s : State) (x : Presented), s.fault.valid = false → s.params.oorPolicy = .fault → 386 ≤ x.opcode.toNat →
    execute x s = .next { s with fault := ⟨true, x.opcode⟩ }

/-- 60_exceptions.md R117: under the policy `inert` an out-of-range opcode changes no state. -/
def Obligations.InertPolicyChangesNothing : Prop :=
  ∀ (s : State) (x : Presented), s.fault.valid = false → s.params.oorPolicy = .inert → 386 ≤ x.opcode.toNat →
    execute x s = .next s

/-- 60_exceptions.md R116: while the latch is set every execute is without a step, no operation but reset changes the
latch, and reset clears it. -/
def Obligations.SetLatchStopsExecutesUntilReset : Prop :=
  ∀ s : State, s.fault.valid = true →
    (∀ x, perform (.execute x) s = .fault .latched) ∧
    (∀ op t, op ≠ .reset → perform op s = .next t → t.fault = s.fault) ∧
    ∃ t, perform .reset s = .next t ∧ t.fault.valid = false

/-- 60_exceptions.md R114, 70_reset_and_hazards.md R135: every instruction completes in every state, raises nothing, and
touches neither the latch nor any of the model's own fields (log entries 2, 6, 7, 8). -/
def Obligations.EveryInstructionCompletesWithoutException : Prop :=
  ∀ (i : Instr) (s : State), ∃ t, exec i s = .next t ∧ SameControl s t

/-- The invariant at reset. -/
def Obligations.InvariantHoldsAtReset : Prop := BlockInv State.reset

/-- Every step keeps the parameters well-formed (that no step changes them is the model's choice, log entry 6) and the latch
sound: it is set only under the policy `fault`, by an opcode outside the valid range (10_state.md R23, 60_exceptions.md
R114). -/
def Obligations.EveryStepKeepsTheInvariant : Prop := ∀ s t : State, BlockInv s → step s = .next t → BlockInv t

/-- 70_reset_and_hazards.md R136: what an execute does to the block depends on the block's state and the pair alone. That it
does not depend on the load record either, and so runs before the first load_state as after it, is the model's choice
(log entries 1 and 8; R131 and vector V101 fault such an execute). -/
def Obligations.ExecuteDependsOnBlockStateAlone : Prop :=
  ∀ (x : Presented) (s s' : State), SameBlock s s' →
    (execute x s = .fault .latched ∧ execute x s' = .fault .latched) ∨
      ∃ t t', execute x s = .next t ∧ execute x s' = .next t' ∧ SameBlock t t'

/-- 60_exceptions.md R122, 70_reset_and_hazards.md R135: a presented sequence of valid opcodes runs to its end, one step
for each element, to the state `execute_sequence` gives, with the latch still clear. That what is presented is the list
`State.inputs`, one operation a step, is the model's choice (log entry 2). -/
def Obligations.ValidSequencesRunToTheirEnd : Prop :=
  ∀ (xs : List Presented) (s : State), (∀ x ∈ xs, x.wellFormed = true) → s.fault.valid = false →
    s.inputs = xs.map .execute →
    Host.Core.run Sys2Proof.core xs.length s = .next { presentAll s xs with inputs := [] } ∧
      (presentAll s xs).fault = s.fault

/-- 60_exceptions.md R121, 20_memory.md R30: load_state writes every register from the image and leaves FAULT alone;
read_state returns the image in the same order, read_fault the latch, and neither changes the block. That what is
returned goes to the end of `State.replies` (log entry 7), and that load_state sets the load record (log entry 8), is
the model's choice. -/
def Obligations.LoadStateAndReadsFollowTheImage : Prop :=
  ∀ (m : Image) (s : State),
    (∃ t, perform (.loadState m) s = .next t ∧
      t = { s with a := m[0], f := m[1], b := m[2], c := m[3], d := m[4], e := m[5], h := m[6], l := m[7], sp := t.sp, loaded := true } ∧
      lo8 t.sp = m[8] ∧ hi8 t.sp = m[9] ∧
      perform .readState t = .next { t with replies := t.replies ++ [.state m] }) ∧
    perform .readState s =
      .next { s with replies := s.replies ++ [.state #v[s.a, s.f, s.b, s.c, s.d, s.e, s.h, s.l, lo8 s.sp, hi8 s.sp]] } ∧
    perform .readFault s = .next { s with replies := s.replies ++ [.fault s.fault] }

/-! ### Encoding -/

/-- Words of the opcode table, one for each family, decode to their rows' instructions (30_encoding.md R45, R48). That a
table word holds the opcode in bits 15 to 0 and the immediate in bits 31 to 16 is the model's choice (log entry 10). -/
def Obligations.TableWordsDecode : Prop :=
  decodeTableWord 16 1 = some .ldAB ∧ decodeTableWord 32 (0x123F * 65536 + 51) = some (.ldCImm 0x3F) ∧
  decodeTableWord 16 73 = some .subD ∧ decodeTableWord 16 118 = some .incA ∧ decodeTableWord 16 122 = some .decE ∧
  decodeTableWord 16 130 = some .daa ∧ decodeTableWord 16 160 = some .rrE ∧ decodeTableWord 16 185 = some .sllC ∧
  decodeTableWord 16 245 = some .bit7H ∧ decodeTableWord 16 275 = some .res3A ∧ decodeTableWord 16 367 = some .decSp ∧
  decodeTableWord 16 370 = some .addHlHl ∧ decodeTableWord 16 372 = some .exDeHl ∧ decodeTableWord 16 373 = some .ldSpHl ∧
  decodeTableWord 32 (0xBEEF * 65536 + 374) = some (.ldBcImm 0xBEEF) ∧ decodeTableWord 16 385 = some .sbcHlSp ∧
  decodeTableWord 16 386 = none

/-- Decoding an encoded well-formed instruction gives it back, under every parameter setting, with every immediate. -/
def Obligations.DecodeInvertsEncode : Prop :=
  ∀ (p : Params) (i : Instr), i.wellFormed p = true → decode p (encode p i) = .instr i

/-- 30_encoding.md R41: the valid opcodes and the instructions with their operands correspond one to one. -/
def Obligations.OpcodesAndInstructionsCorrespond : Prop :=
  ∀ p : Params, p.wellFormed = true →
    (∀ x : Presented, x.wellFormed = true → ∃ i, decode p x = .instr i) ∧
    (∀ i : Instr, ∃ x : Presented, x.wellFormed = true ∧ decode p x = .instr i) ∧
    ∀ (x y : Presented) (i : Instr), decode p x = .instr i → decode p y = .instr i → x.opcode = y.opcode

/-- 30_encoding.md R48: the opcode of every instruction, by the position of its operation and operands. -/
def Obligations.OpcodesFollowTheFormulas : Prop :=
  ∀ p : Params, p.wellFormed = true →
    (∀ dst src, encode p (ldOf dst src) = ⟨BitVec.ofNat 16 (7 * idxA dst + idxA src), 0⟩) ∧
    (∀ dst n, (encode p (ldImmOf dst n)).opcode = BitVec.ofNat 16 (49 + idxA dst)) ∧
    (∀ (k : Fin 8) s, encode p (aluOps.get k s) = ⟨BitVec.ofNat 16 (56 + 7 * k.val + idxA s), 0⟩) ∧
    (∀ r, encode p (incOf r) = ⟨BitVec.ofNat 16 (112 + idxR r), 0⟩) ∧
    (∀ r, encode p (decOf r) = ⟨BitVec.ofNat 16 (119 + idxR r), 0⟩) ∧
    (∀ k : Fin 10, encode p (miscOps.get k) = ⟨BitVec.ofNat 16 (126 + k.val), 0⟩) ∧
    (∀ (k : Fin 7) r, encode p (rotOps.get k r) = ⟨BitVec.ofNat 16 (136 + 7 * k.val + idxR r), 0⟩) ∧
    (∀ k : Fin 7, encode p (sllOf (p.sllRegMap.get k)) = ⟨BitVec.ofNat 16 (185 + k.val), 0⟩) ∧
    (∀ (k : Fin 3) b r, encode p (bitOps.get k b r) = ⟨BitVec.ofNat 16 (192 + 56 * k.val + 7 * b.val + idxR r), 0⟩) ∧
    (∀ q, encode p (incPairOf q) = ⟨BitVec.ofNat 16 (360 + idxP q), 0⟩) ∧
    (∀ q, encode p (decPairOf q) = ⟨BitVec.ofNat 16 (364 + idxP q), 0⟩) ∧
    (∀ q, encode p (addHlOf q) = ⟨BitVec.ofNat 16 (368 + idxP q), 0⟩) ∧
    encode p .exDeHl = ⟨372, 0⟩ ∧ encode p .ldSpHl = ⟨373, 0⟩ ∧
    (∀ q nn, encode p (ldPairImmOf q nn) = ⟨BitVec.ofNat 16 (374 + idxP q), nn⟩) ∧
    (∀ q, encode p (adcHlOf q) = ⟨BitVec.ofNat 16 (378 + idxP q), 0⟩) ∧
    ∀ q, encode p (sbcHlOf q) = ⟨BitVec.ofNat 16 (382 + idxP q), 0⟩

/-- 30_encoding.md R53, R54: the illegal opcodes are exactly those from 386 up, and each is rejected with its own value. -/
def Obligations.IllegalOpcodesAreThoseFrom386 : Prop :=
  ∀ (p : Params) (x : Presented) (o : Word), decode p x = .illegalOpcode o ↔ o = x.opcode ∧ 386 ≤ x.opcode.toNat

/-- 30_encoding.md R42, R43: outside families 2 and 14 every bit of the immediate is ignored, in the decoder and so in the
execute; family 2 takes its low byte and family 14 the whole of it, neither extended, scaled nor shifted. -/
def Obligations.OnlyTheImmediateLoadsConsumeTheImmediate : Prop :=
  ∀ (o imm imm' : Word) (s : State),
    (¬ (49 ≤ o.toNat ∧ o.toNat < 56) → ¬ (374 ≤ o.toNat ∧ o.toNat < 378) →
      decode s.params ⟨o, imm⟩ = decode s.params ⟨o, imm'⟩ ∧ execute ⟨o, imm⟩ s = execute ⟨o, imm'⟩ s) ∧
    (49 ≤ o.toNat ∧ o.toNat < 56 → ∃ r, decode s.params ⟨o, imm⟩ = .instr (ldImmOf r (lo8 imm))) ∧
    (374 ≤ o.toNat ∧ o.toNat < 378 → ∃ p, decode s.params ⟨o, imm⟩ = .instr (ldPairImmOf p imm))

/-! ### Tables and pairs -/

/-- 40_flag_tables.md R59, R60, R61: the three 256-entry tables. -/
def Obligations.ByteTablesMatchTheirFormulas : Prop :=
  ∀ v : Byte, sz53 v = flagByte (v.getLsbD 7) (v == 0) (v.getLsbD 5) false (v.getLsbD 3) false false false ∧
    par v = flagByte false false false false false (evenParity v) false false ∧ sz53p v = sz53 v ||| par v

/-- 40_flag_tables.md R69: the four 8-entry tables, read through the lookup index, give the true half-carry and signed
overflow of every 8-bit and every 16-bit addition and subtraction. -/
def Obligations.CarryTablesGiveTrueCarryAndOverflow : Prop :=
  (∀ (a b : Byte) (c : Bool),
    tableAt hcAdd (halfIndex (lookup8 a b (sum8 a b c))) =
      flagIf (decide (15 < a.toNat % 16 + b.toNat % 16 + c.toNat)) 0x10 ∧
    tableAt ovAdd (overflowIndex (lookup8 a b (sum8 a b c))) = flagIf (overflows8 (a.toInt + b.toInt + c.toNat)) 0x04 ∧
    tableAt hcSub (halfIndex (lookup8 a b (diff8 a b c))) = flagIf (decide (a.toNat % 16 < b.toNat % 16 + c.toNat)) 0x10 ∧
    tableAt ovSub (overflowIndex (lookup8 a b (diff8 a b c))) = flagIf (overflows8 (a.toInt - b.toInt - c.toNat)) 0x04) ∧
  ∀ (a b : Word) (c : Bool),
    tableAt hcAdd (halfIndex (lookup16 a b (sum16 a b c))) =
      flagIf (decide (4095 < a.toNat % 4096 + b.toNat % 4096 + c.toNat)) 0x10 ∧
    tableAt ovAdd (overflowIndex (lookup16 a b (sum16 a b c))) = flagIf (overflows16 (a.toInt + b.toInt + c.toNat)) 0x04 ∧
    tableAt hcSub (halfIndex (lookup16 a b (diff16 a b c))) =
      flagIf (decide (a.toNat % 4096 < b.toNat % 4096 + c.toNat)) 0x10 ∧
    tableAt ovSub (overflowIndex (lookup16 a b (diff16 a b c))) = flagIf (overflows16 (a.toInt - b.toInt - c.toNat)) 0x04

/-- 10_state.md R15: a pair is its two registers, high first, for reading and for writing, and SP is its own storage. -/
def Obligations.PairsAreTheirTwoRegisters : Prop :=
  ∀ (s : State) (p : Pair) (v : Word) (w : Byte),
    pair p s = pairValue s p ∧ setPair p v s = withPair s p v ∧ pair p (setPair p v s) = v ∧
    highByte (pair .hl (setReg8 .h w s)) = w ∧ lowByte (pair .hl (setReg8 .h w s)) = s.l ∧
    highByte (pair .hl (setReg8 .l w s)) = s.h ∧ lowByte (pair .hl (setReg8 .l w s)) = w ∧
    highByte (pair .bc (setReg8 .b w s)) = w ∧ lowByte (pair .bc (setReg8 .b w s)) = s.c ∧
    highByte (pair .bc (setReg8 .c w s)) = s.b ∧ lowByte (pair .bc (setReg8 .c w s)) = w ∧
    highByte (pair .de (setReg8 .d w s)) = w ∧ lowByte (pair .de (setReg8 .d w s)) = s.e ∧
    highByte (pair .de (setReg8 .e w s)) = s.d ∧ lowByte (pair .de (setReg8 .e w s)) = w

/-! ### 8-bit loads -/

/-- 41_loads8.md R73. -/
def Obligations.LoadRegisterCopiesSource : Prop :=
  ∀ (dst src : Reg7) (s : State), Encodes s.params (7 * idxA dst + idxA src) (ldOf dst src) ∧
    exec (ldOf dst src) s = .next (withReg s dst (regValue s src) s.f)

/-- 41_loads8.md R74, 30_encoding.md R43. -/
def Obligations.LoadImmediateTakesLowByte : Prop :=
  ∀ (dst : Reg7) (n : Byte) (imm : Word) (s : State),
    decode s.params ⟨BitVec.ofNat 16 (49 + idxA dst), imm⟩ = .instr (ldImmOf dst (lo8 imm)) ∧
    exec (ldImmOf dst n) s = .next (withReg s dst n s.f)

/-- 30_encoding.md R52: the seven diagonal opcodes change nothing, as NOP. -/
def Obligations.DiagonalLoadsChangeNothing : Prop :=
  ∀ (r : Reg7) (s : State), Encodes s.params (8 * idxA r) (ldOf r r) ∧ exec (ldOf r r) s = .next s ∧
    exec .nop s = .next s

/-! ### 8-bit ALU -/

/-- 42_alu8.md R75. -/
def Obligations.AddSetsSumAndFlags : Prop :=
  ∀ (r : Reg7) (s : State), Encodes s.params (56 + idxA r) (addOf r) ∧
    exec (addOf r) s = .next { s with a := sum8 s.a (regValue s r) false, f := sumFlags8 s.a (regValue s r) false }

/-- 42_alu8.md R76. -/
def Obligations.AdcSetsSumAndFlags : Prop :=
  ∀ (r : Reg7) (s : State), Encodes s.params (63 + idxA r) (adcOf r) ∧
    exec (adcOf r) s = .next { s with a := sum8 s.a (regValue s r) (carry s), f := sumFlags8 s.a (regValue s r) (carry s) }

/-- 42_alu8.md R77. -/
def Obligations.SubSetsDifferenceAndFlags : Prop :=
  ∀ (r : Reg7) (s : State), Encodes s.params (70 + idxA r) (subOf r) ∧
    exec (subOf r) s = .next { s with a := diff8 s.a (regValue s r) false, f := diffFlags8 s.a (regValue s r) false }

/-- 42_alu8.md R78. -/
def Obligations.SbcSetsDifferenceAndFlags : Prop :=
  ∀ (r : Reg7) (s : State), Encodes s.params (77 + idxA r) (sbcOf r) ∧
    exec (sbcOf r) s = .next { s with a := diff8 s.a (regValue s r) (carry s), f := diffFlags8 s.a (regValue s r) (carry s) }

/-- 42_alu8.md R79, R80, R81. -/
def Obligations.LogicalOperationsSetResultAndFlags : Prop :=
  ∀ (r : Reg7) (s : State),
    (Encodes s.params (84 + idxA r) (andOf r) ∧ Encodes s.params (91 + idxA r) (xorOf r) ∧
      Encodes s.params (98 + idxA r) (orOf r)) ∧
    (let v := s.a &&& regValue s r
     exec (andOf r) s = .next { s with a := v, f := resultFlags v true (evenParity v) false false }) ∧
    (let v := s.a ^^^ regValue s r
     exec (xorOf r) s = .next { s with a := v, f := resultFlags v false (evenParity v) false false }) ∧
    (let v := s.a ||| regValue s r
     exec (orOf r) s = .next { s with a := v, f := resultFlags v false (evenParity v) false false })

/-- 42_alu8.md R82: only `F` is written; bits 5 and 3 come from the operand. -/
def Obligations.CompareSetsFlagsOnly : Prop :=
  ∀ (r : Reg7) (s : State), Encodes s.params (105 + idxA r) (cpOf r) ∧
    (let v := regValue s r
     exec (cpOf r) s = .next { s with
       f := flagByte ((diff8 s.a v false).getLsbD 7) (s.a == v) (v.getLsbD 5) (decide (s.a.toNat % 16 < v.toNat % 16))
         (v.getLsbD 3) (overflows8 (s.a.toInt - v.toInt)) true (decide (s.a.toNat < v.toNat)) })

/-- 42_alu8.md R83. -/
def Obligations.IncrementSetsResultAndKeepsCarry : Prop :=
  ∀ (r : Reg7) (s : State), Encodes s.params (112 + idxR r) (incOf r) ∧
    (let v := sum8 (regValue s r) 1 false
     exec (incOf r) s = .next (withReg s r v (resultFlags v (v.toNat % 16 == 0) (v == 0x80) false (carry s))))

/-- 42_alu8.md R84. -/
def Obligations.DecrementSetsResultAndKeepsCarry : Prop :=
  ∀ (r : Reg7) (s : State), Encodes s.params (119 + idxR r) (decOf r) ∧
    (let v := diff8 (regValue s r) 1 false
     exec (decOf r) s = .next (withReg s r v (resultFlags v ((regValue s r).toNat % 16 == 0) (v == 0x7F) true (carry s))))

/-- 42_alu8.md R82, R77: CP and SUB set the same flags but for bits 5 and 3, and CP keeps A. -/
def Obligations.CompareAgreesWithSubtract : Prop :=
  ∀ (r : Reg7) (s : State), ∃ t u, exec (cpOf r) s = .next t ∧ exec (subOf r) s = .next u ∧ t.a = s.a ∧
    t.f &&& 0xD7 = u.f &&& 0xD7

/-- 42_alu8.md R84 (corner cases): INC r then DEC r restores r and C, and changes nothing else but F. -/
def Obligations.DecrementUndoesIncrement : Prop :=
  ∀ (r : Reg7) (s : State), ∃ t u, exec (incOf r) s = .next t ∧ exec (decOf r) t = .next u ∧
    u = { s with f := u.f } ∧ carry t = carry s ∧ carry u = carry s

/-- 42_alu8.md R81 (corner cases), R79: OR A and AND A differ in H alone. -/
def Obligations.OrAndAndOfAccumulatorDifferInHalfCarry : Prop :=
  ∀ s : State, ∃ t, exec .orA s = .next t ∧ exec .andA s = .next { t with f := t.f ||| 0x10 } ∧ t.a = s.a ∧
    t.f.getLsbD 4 = false

/-! ### Miscellaneous operations -/

/-- 43_misc.md R85, R86, R87, R88. -/
def Obligations.AccumulatorRotates : Prop :=
  ∀ s : State,
    (Encodes s.params 126 .rlca ∧ Encodes s.params 127 .rrca ∧ Encodes s.params 128 .rla ∧ Encodes s.params 129 .rra) ∧
    (let v := s.a.rotateLeft 1
     exec .rlca s = .next { s with a := v, f := rotatedAFlags s v (s.a.getLsbD 7) }) ∧
    (let v := s.a.rotateRight 1
     exec .rrca s = .next { s with a := v, f := rotatedAFlags s v (s.a.getLsbD 0) }) ∧
    (let v := BitVec.ofNat 8 (2 * s.a.toNat + (carry s).toNat)
     exec .rla s = .next { s with a := v, f := rotatedAFlags s v (s.a.getLsbD 7) }) ∧
    (let v := BitVec.ofNat 8 (s.a.toNat / 2 + 128 * (carry s).toNat)
     exec .rra s = .next { s with a := v, f := rotatedAFlags s v (s.a.getLsbD 0) })

/-- 43_misc.md R88 (corner cases): nine rotations of A through the carry restore A and C. -/
def Obligations.NineRotatesThroughCarryRestore : Prop :=
  ∀ (s : State) (i : Instr), i = .rla ∨ i = .rra → ∃ t, repeated i 9 s = some t ∧ t = { s with f := t.f } ∧ carry t = carry s

/-- 43_misc.md R89. -/
def Obligations.DecimalAdjustFollowsTheCorrectionSteps : Prop :=
  ∀ s : State, Encodes s.params 130 .daa ∧
    (let low := s.f.getLsbD 4 || decide (9 < s.a.toNat % 16)
     let high := carry s || decide (0x99 < s.a.toNat)
     let adj : Byte := BitVec.ofNat 8 (6 * low.toNat + 96 * high.toNat)
     let sub := s.f.getLsbD 1
     let v := if sub then diff8 s.a adj false else sum8 s.a adj false
     let h := if sub then decide (s.a.toNat % 16 < adj.toNat % 16) else decide (15 < s.a.toNat % 16 + adj.toNat % 16)
     exec .daa s = .next { s with a := v, f := resultFlags v h (evenParity v) sub high })

/-- 43_misc.md R89 (corner cases): ADD or ADC of two decimal bytes, then DAA, is the decimal sum. -/
def Obligations.DecimalAdditionByAdjust : Prop :=
  ∀ (x y : Fin 100) (r : Reg7) (s : State), s.a = bcd x.val → regValue s r = bcd y.val →
    (∃ t u, exec (addOf r) s = .next t ∧ exec .daa t = .next u ∧ u.a = bcd ((x.val + y.val) % 100) ∧
      carry u = decide (100 ≤ x.val + y.val)) ∧
    ∃ t u, exec (adcOf r) s = .next t ∧ exec .daa t = .next u ∧ u.a = bcd ((x.val + y.val + (carry s).toNat) % 100) ∧
      carry u = decide (100 ≤ x.val + y.val + (carry s).toNat)

/-- 43_misc.md R89 (corner cases): SUB of two decimal bytes, then DAA, is the decimal difference. -/
def Obligations.DecimalSubtractionByAdjust : Prop :=
  ∀ (x y : Fin 100) (r : Reg7) (s : State), s.a = bcd x.val → regValue s r = bcd y.val →
    ∃ t u, exec (subOf r) s = .next t ∧ exec .daa t = .next u ∧ u.a = bcd ((x.val + 100 - y.val) % 100) ∧
      carry u = decide (x.val < y.val)

/-- 43_misc.md R90, R91, R92, R94. -/
def Obligations.ComplementCarryAndNoOperation : Prop :=
  ∀ s : State,
    (Encodes s.params 131 .cpl ∧ Encodes s.params 132 .scf ∧ Encodes s.params 133 .ccf ∧ Encodes s.params 135 .nop) ∧
    (let v := BitVec.ofNat 8 (255 - s.a.toNat)
     exec .cpl s = .next { s with
       a := v, f := flagByte (s.f.getLsbD 7) (s.f.getLsbD 6) (v.getLsbD 5) true (v.getLsbD 3) (s.f.getLsbD 2) true (carry s) }) ∧
    exec .scf s = .next { s with
      f := flagByte (s.f.getLsbD 7) (s.f.getLsbD 6) (s.a.getLsbD 5) false (s.a.getLsbD 3) (s.f.getLsbD 2) false true } ∧
    exec .ccf s = .next { s with
      f := flagByte (s.f.getLsbD 7) (s.f.getLsbD 6) (s.a.getLsbD 5) (carry s) (s.a.getLsbD 3) (s.f.getLsbD 2) false (!carry s) } ∧
    exec .nop s = .next s

/-- 43_misc.md R93. -/
def Obligations.NegateIsZeroMinusAccumulator : Prop :=
  ∀ s : State, Encodes s.params 134 .neg ∧
    (let v := BitVec.ofInt 8 (-(s.a.toNat : Int))
     exec .neg s = .next { s with
       a := v, f := resultFlags v (decide (s.a.toNat % 16 ≠ 0)) (s.a == 0x80) true (decide (s.a ≠ 0)) })

/-! ### CB operations -/

/-- 44_cb.md R95, R96, R97, R98. -/
def Obligations.RotatesSetResultAndFlags : Prop :=
  ∀ (r : Reg7) (s : State),
    (Encodes s.params (136 + idxR r) (rlcOf r) ∧ Encodes s.params (143 + idxR r) (rrcOf r) ∧
      Encodes s.params (150 + idxR r) (rlOf r) ∧ Encodes s.params (157 + idxR r) (rrOf r)) ∧
    (let v := regValue s r
     (let w := v.rotateLeft 1
      exec (rlcOf r) s = .next (withReg s r w (shiftedFlags w (v.getLsbD 7)))) ∧
     (let w := v.rotateRight 1
      exec (rrcOf r) s = .next (withReg s r w (shiftedFlags w (v.getLsbD 0)))) ∧
     (let w := BitVec.ofNat 8 (2 * v.toNat + (carry s).toNat)
      exec (rlOf r) s = .next (withReg s r w (shiftedFlags w (v.getLsbD 7)))) ∧
     (let w := BitVec.ofNat 8 (v.toNat / 2 + 128 * (carry s).toNat)
      exec (rrOf r) s = .next (withReg s r w (shiftedFlags w (v.getLsbD 0)))))

/-- 44_cb.md R99, R100, R101. -/
def Obligations.ShiftsSetResultAndFlags : Prop :=
  ∀ (r : Reg7) (s : State),
    (Encodes s.params (164 + idxR r) (slaOf r) ∧ Encodes s.params (171 + idxR r) (sraOf r) ∧
      Encodes s.params (178 + idxR r) (srlOf r)) ∧
    (let v := regValue s r
     (let w := BitVec.ofNat 8 (2 * v.toNat)
      exec (slaOf r) s = .next (withReg s r w (shiftedFlags w (v.getLsbD 7)))) ∧
     (let w := BitVec.ofInt 8 (v.toInt / 2)
      exec (sraOf r) s = .next (withReg s r w (shiftedFlags w (v.getLsbD 0)))) ∧
     (let w := BitVec.ofNat 8 (v.toNat / 2)
      exec (srlOf r) s = .next (withReg s r w (shiftedFlags w (v.getLsbD 0)))))

/-- 44_cb.md R102, 30_encoding.md R47: the register of each SLL opcode is the map's, for every map. -/
def Obligations.SllForcesBitZeroOnTheMappedRegister : Prop :=
  ∀ (s : State), (∀ k : Fin 7, Encodes s.params (185 + k.val) (sllOf (s.params.sllRegMap.get k))) ∧
    (∀ r, (let w := BitVec.ofNat 8 (2 * (regValue s r).toNat + 1)
      exec (sllOf r) s = .next (withReg s r w (shiftedFlags w ((regValue s r).getLsbD 7))))) ∧
    (∀ k : Fin 7, Params.default.sllRegMap.get k = ordR.get (Fin.ofNat 7 (k.val + 1))) ∧ Params.default.wellFormed = true

/-- 44_cb.md R103: only `F` is written. -/
def Obligations.BitTestSetsFlagsOnly : Prop :=
  ∀ (b : Fin 8) (r : Reg7) (s : State), Encodes s.params (192 + 7 * b.val + idxR r) (bitOf b r) ∧
    (let v := regValue s r
     exec (bitOf b r) s = .next { s with
       f := flagByte (decide (b.val = 7) && v.getLsbD 7) (!v.getLsbD b.val) (v.getLsbD 5) true (v.getLsbD 3)
         (!v.getLsbD b.val) false (carry s) })

/-- 44_cb.md R104, R105: the register with bit b cleared or set and every other bit kept; no flag is written. -/
def Obligations.BitResetAndSetChangeOneBit : Prop :=
  ∀ (b : Fin 8) (r : Reg7) (s : State),
    (Encodes s.params (248 + 7 * b.val + idxR r) (resOf b r) ∧ Encodes s.params (304 + 7 * b.val + idxR r) (setOf b r)) ∧
    ∃ v w : Byte,
      exec (resOf b r) s = .next (withReg s r v s.f) ∧ exec (setOf b r) s = .next (withReg s r w s.f) ∧
      ∀ k : Fin 8, v.getLsbD k.val = ((regValue s r).getLsbD k.val && decide (k ≠ b)) ∧
        w.getLsbD k.val = ((regValue s r).getLsbD k.val || decide (k = b))

/-! ### 16-bit operations -/

/-- 45_pair16.md R106, R107. -/
def Obligations.PairIncrementAndDecrementWrap : Prop :=
  ∀ (p : Pair) (s : State),
    (Encodes s.params (360 + idxP p) (incPairOf p) ∧ Encodes s.params (364 + idxP p) (decPairOf p)) ∧
    exec (incPairOf p) s = .next (withPair s p (sum16 (pairValue s p) 1 false)) ∧
    exec (decPairOf p) s = .next (withPair s p (diff16 (pairValue s p) 1 false))

/-- 45_pair16.md R108. -/
def Obligations.AddHlSetsSumAndKeepsSZPV : Prop :=
  ∀ (p : Pair) (s : State), Encodes s.params (368 + idxP p) (addHlOf p) ∧
    (let a := pairValue s .hl
     let b := pairValue s p
     let v := sum16 a b false
     exec (addHlOf p) s = .next { withPair s .hl v with
       f := flagByte (s.f.getLsbD 7) (s.f.getLsbD 6) (v.getLsbD 13) (decide (4095 < a.toNat % 4096 + b.toNat % 4096))
         (v.getLsbD 11) (s.f.getLsbD 2) false (decide (65535 < a.toNat + b.toNat)) })

/-- 45_pair16.md R109, R110. -/
def Obligations.ExchangeAndLoadSpFromHl : Prop :=
  ∀ s : State, (Encodes s.params 372 .exDeHl ∧ Encodes s.params 373 .ldSpHl) ∧
    exec .exDeHl s = .next { s with d := s.h, e := s.l, h := s.d, l := s.e } ∧
    exec .ldSpHl s = .next { s with sp := pairValue s .hl }

/-- 45_pair16.md R111, 30_encoding.md R44. -/
def Obligations.PairImmediateLoadTakesWholeImmediate : Prop :=
  ∀ (p : Pair) (imm nn : Word) (s : State),
    decode s.params ⟨BitVec.ofNat 16 (374 + idxP p), imm⟩ = .instr (ldPairImmOf p imm) ∧
    exec (ldPairImmOf p nn) s = .next (withPair s p nn)

/-- 45_pair16.md R112. -/
def Obligations.AdcHlSetsSumAndFlags : Prop :=
  ∀ (p : Pair) (s : State), Encodes s.params (378 + idxP p) (adcHlOf p) ∧
    (let a := pairValue s .hl
     let b := pairValue s p
     let c := carry s
     let v := sum16 a b c
     exec (adcHlOf p) s = .next { withPair s .hl v with
       f := resultFlags16 v (decide (4095 < a.toNat % 4096 + b.toNat % 4096 + c.toNat))
         (overflows16 (a.toInt + b.toInt + c.toNat)) false (decide (65535 < a.toNat + b.toNat + c.toNat)) })

/-- 45_pair16.md R113. -/
def Obligations.SbcHlSetsDifferenceAndFlags : Prop :=
  ∀ (p : Pair) (s : State), Encodes s.params (382 + idxP p) (sbcHlOf p) ∧
    (let a := pairValue s .hl
     let b := pairValue s p
     let c := carry s
     let v := diff16 a b c
     exec (sbcHlOf p) s = .next { withPair s .hl v with
       f := resultFlags16 v (decide (a.toNat % 4096 < b.toNat % 4096 + c.toNat))
         (overflows16 (a.toInt - b.toInt - c.toNat)) true (decide (a.toNat < b.toNat + c.toNat)) })

/-! ### Rules over all instructions -/

/-- 10_state.md R17: the instructions that do not write F, by their opcodes (LD r,r', LD r,n, NOP, RES, SET, INC rr, DEC rr,
EX DE,HL, LD SP,HL, LD rr,nn). -/
def Obligations.FlaglessInstructionsKeepFlags : Prop :=
  ∀ (x : Presented) (i : Instr) (s t : State),
    (x.opcode.toNat < 56 ∨ x.opcode.toNat = 135 ∨ (248 ≤ x.opcode.toNat ∧ x.opcode.toNat < 368) ∨
      (372 ≤ x.opcode.toNat ∧ x.opcode.toNat < 378)) →
    decode s.params x = .instr i → exec i s = .next t → t.f = s.f

/-- 10_state.md R20: which instructions write SP and which read it. -/
def Obligations.OnlyNamedInstructionsTouchSp : Prop :=
  ∀ (i : Instr) (s t : State) (v : Word), exec i s = .next t →
    (¬ WritesSp i → t.sp = s.sp) ∧
    (¬ ReadsSp i → WritesSp i → exec i { s with sp := v } = .next t) ∧
    (¬ ReadsSp i → ¬ WritesSp i → exec i { s with sp := v } = .next { t with sp := v })

/-- 10_state.md R16: no instruction reads flag bits 5 and 3; what they held reaches the next state only where F is not
written. -/
def Obligations.UndocumentedFlagsAreNotInputs : Prop :=
  ∀ (i : Instr) (s t : State) (g : Byte), g &&& 0xD7 = s.f &&& 0xD7 → exec i s = .next t →
    exec i { s with f := g } = .next t ∨ (t.f = s.f ∧ exec i { s with f := g } = .next { t with f := g })

/-- 60_exceptions.md R123: the fingerprint of a sequence of valid opcodes is defined, has 80 bytes, and holds the end image of
seed i at bytes 10 i to 10 i + 9. -/
def Obligations.FingerprintLaysOutEightEndImages : Prop :=
  ∀ (p : Params) (seeds : Vector Image 8) (xs : List Presented), (∀ x ∈ xs, x.wellFormed = true) →
    ∃ d, fingerprint p seeds xs = some d ∧ d.length = 80 ∧
      ∀ k : Fin 8, endImage (runSequence p (seeds.get k) xs) = some (imageOf (runSequence p (seeds.get k) xs)) ∧
        (d.drop (10 * k.val)).take 10 = (imageOf (runSequence p (seeds.get k) xs)).toList
end

