-- ==== Sys2Proof/Laws/Encoding.lean ====
section
/-! SUPPORT. Small lemmas about the encoding tables. -/

namespace Sys2Proof.Laws

/-- A register that `SLL_REG_MAP` holds stands at one of its seven positions. -/
theorem sllPosition_lt (p : Params) (r : Reg7) (h : p.sllRegMap.toList.contains r = true) : sllPosition p r < 7 := by
  have hm : r ∈ p.sllRegMap.toList := by simpa using h
  simpa [sllPosition] using List.idxOf_lt_length_of_mem hm

/-- The register at an encodable register's position is that register. -/
theorem sllRegMap_get_sllPosition (p : Params) (r : Reg7) (h : p.sllRegMap.toList.contains r = true) :
    p.sllRegMap.get (Fin.ofNat 7 (sllPosition p r)) = r := by
  have hlt := sllPosition_lt p r h
  have hm : r ∈ p.sllRegMap.toList := by simpa using h
  have hget := List.getElem_idxOf (List.idxOf_lt_length_of_mem hm)
  simp only [Fin.ofNat, Vector.get_eq_getElem, Nat.mod_eq_of_lt hlt]
  exact hget

/-- The opcode of an encodable SLL, as a number. -/
theorem sllOpcode_toNat (p : Params) (r : Reg7) (h : p.sllRegMap.toList.contains r = true) :
    (sllOpcode p r).toNat = 185 + sllPosition p r := by
  have hlt := sllPosition_lt p r h
  simp only [sllOpcode, BitVec.toNat_ofNat]
  omega

/-- The encoder's immediate of an 8-bit load carries the byte (30_encoding.md R43). -/
@[simp] theorem immByte_setWidth (n : Byte) : immByte (n.setWidth 16) = n := by
  apply BitVec.eq_of_getLsbD_eq
  intro i hi
  have h16 : i < 16 := by omega
  simp [immByte, hi, h16]

/-- The opcode of an encodable SLL lies in the valid range. -/
theorem sllOpcode_inRange (p : Params) (r : Reg7) (h : p.sllRegMap.toList.contains r = true) :
    (Presented.mk (sllOpcode p r) 0).wellFormed = true := by
  have hlt := sllPosition_lt p r h
  simp only [Presented.wellFormed, sllOpcode_toNat p r h, numOpcodes, decide_eq_true_eq]
  omega

/-! ### The dispatcher on each family's range (30_encoding.md R45, R49) -/

theorem dispatch_load (p : Params) (imm : Word) {o : Nat} (h2 : o < 49) :
    dispatch p o imm = some (loadAt o) := by
  simp (disch := omega) only [dispatch, if_pos]

theorem dispatch_loadImm (p : Params) (imm : Word) {o : Nat} (h1 : 49 ≤ o) (h2 : o < 56) :
    dispatch p o imm = some (loadImmAt (o - 49) imm) := by
  simp (disch := omega) only [dispatch, if_pos, if_neg]

theorem dispatch_alu (p : Params) (imm : Word) {o : Nat} (h1 : 56 ≤ o) (h2 : o < 112) :
    dispatch p o imm = some (aluAt (o - 56)) := by
  simp (disch := omega) only [dispatch, if_pos, if_neg]

theorem dispatch_inc (p : Params) (imm : Word) {o : Nat} (h1 : 112 ≤ o) (h2 : o < 119) :
    dispatch p o imm = some (incAt (o - 112)) := by
  simp (disch := omega) only [dispatch, if_pos, if_neg]

theorem dispatch_dec (p : Params) (imm : Word) {o : Nat} (h1 : 119 ≤ o) (h2 : o < 126) :
    dispatch p o imm = some (decAt (o - 119)) := by
  simp (disch := omega) only [dispatch, if_pos, if_neg]

theorem dispatch_misc (p : Params) (imm : Word) {o : Nat} (h1 : 126 ≤ o) (h2 : o < 136) :
    dispatch p o imm = some (miscAt (o - 126)) := by
  simp (disch := omega) only [dispatch, if_pos, if_neg]

theorem dispatch_rot (p : Params) (imm : Word) {o : Nat} (h1 : 136 ≤ o) (h2 : o < 185) :
    dispatch p o imm = some (rotAt (o - 136)) := by
  simp (disch := omega) only [dispatch, if_pos, if_neg]

theorem dispatch_sll (p : Params) (imm : Word) {o : Nat} (h1 : 185 ≤ o) (h2 : o < 192) :
    dispatch p o imm = some (sllAt p (o - 185)) := by
  simp (disch := omega) only [dispatch, if_pos, if_neg]

theorem dispatch_bitop (p : Params) (imm : Word) {o : Nat} (h1 : 192 ≤ o) (h2 : o < 360) :
    dispatch p o imm = some (bitopAt (o - 192)) := by
  simp (disch := omega) only [dispatch, if_pos, if_neg]

theorem dispatch_incDecPair (p : Params) (imm : Word) {o : Nat} (h1 : 360 ≤ o) (h2 : o < 368) :
    dispatch p o imm = some (incDecPairAt (o - 360)) := by
  simp (disch := omega) only [dispatch, if_pos, if_neg]

theorem dispatch_addHl (p : Params) (imm : Word) {o : Nat} (h1 : 368 ≤ o) (h2 : o < 372) :
    dispatch p o imm = some (addHlAt (o - 368)) := by
  simp (disch := omega) only [dispatch, if_pos, if_neg]

theorem dispatch_exDeHl (p : Params) (imm : Word) {o : Nat} (h1 : 372 ≤ o) (h2 : o < 373) :
    dispatch p o imm = some .exDeHl := by
  simp (disch := omega) only [dispatch, if_pos, if_neg]

theorem dispatch_ldSpHl (p : Params) (imm : Word) {o : Nat} (h1 : 373 ≤ o) (h2 : o < 374) :
    dispatch p o imm = some .ldSpHl := by
  simp (disch := omega) only [dispatch, if_pos, if_neg]

theorem dispatch_loadPairImm (p : Params) (imm : Word) {o : Nat} (h1 : 374 ≤ o) (h2 : o < 378) :
    dispatch p o imm = some (loadPairImmAt (o - 374) imm) := by
  simp (disch := omega) only [dispatch, if_pos, if_neg]

theorem dispatch_adcSbcHl (p : Params) (imm : Word) {o : Nat} (h1 : 378 ≤ o) (h2 : o < 386) :
    dispatch p o imm = some (adcSbcHlAt (o - 378)) := by
  simp (disch := omega) only [dispatch, if_pos, if_neg]

theorem dispatch_outOfRange (p : Params) (imm : Word) {o : Nat} (h : 386 ≤ o) : dispatch p o imm = none := by
  simp (disch := omega) only [dispatch, if_neg]

/-- Every opcode of the valid range is an instruction. -/
theorem dispatch_inRange (p : Params) (imm : Word) {o : Nat} (h : o < 386) : ∃ i, dispatch p o imm = some i := by
  have bounds : o < 49 ∨ (49 ≤ o ∧ o < 56) ∨ (56 ≤ o ∧ o < 112) ∨ (112 ≤ o ∧ o < 119) ∨ (119 ≤ o ∧ o < 126) ∨
      (126 ≤ o ∧ o < 136) ∨ (136 ≤ o ∧ o < 185) ∨ (185 ≤ o ∧ o < 192) ∨ (192 ≤ o ∧ o < 360) ∨ (360 ≤ o ∧ o < 368) ∨
      (368 ≤ o ∧ o < 372) ∨ (372 ≤ o ∧ o < 373) ∨ (373 ≤ o ∧ o < 374) ∨ (374 ≤ o ∧ o < 378) ∨ (378 ≤ o ∧ o < 386) := by
    omega
  rcases bounds with h | ⟨h1, h2⟩ | ⟨h1, h2⟩ | ⟨h1, h2⟩ | ⟨h1, h2⟩ | ⟨h1, h2⟩ | ⟨h1, h2⟩ | ⟨h1, h2⟩ | ⟨h1, h2⟩ | ⟨h1, h2⟩ |
    ⟨h1, h2⟩ | ⟨h1, h2⟩ | ⟨h1, h2⟩ | ⟨h1, h2⟩ | ⟨h1, h2⟩
  · exact ⟨_, dispatch_load p imm h⟩
  · exact ⟨_, dispatch_loadImm p imm h1 h2⟩
  · exact ⟨_, dispatch_alu p imm h1 h2⟩
  · exact ⟨_, dispatch_inc p imm h1 h2⟩
  · exact ⟨_, dispatch_dec p imm h1 h2⟩
  · exact ⟨_, dispatch_misc p imm h1 h2⟩
  · exact ⟨_, dispatch_rot p imm h1 h2⟩
  · exact ⟨_, dispatch_sll p imm h1 h2⟩
  · exact ⟨_, dispatch_bitop p imm h1 h2⟩
  · exact ⟨_, dispatch_incDecPair p imm h1 h2⟩
  · exact ⟨_, dispatch_addHl p imm h1 h2⟩
  · exact ⟨_, dispatch_exDeHl p imm h1 h2⟩
  · exact ⟨_, dispatch_ldSpHl p imm h1 h2⟩
  · exact ⟨_, dispatch_loadPairImm p imm h1 h2⟩
  · exact ⟨_, dispatch_adcSbcHl p imm h1 h2⟩

/-- The decoder on an opcode the dispatcher takes. -/
theorem decode_of_dispatch {p : Params} {x : Presented} {i : Instr} (h : dispatch p x.opcode.toNat x.imm = some i) :
    decode p x = .instr i := by
  simp [decode, h]

/-- The decoder on an opcode the dispatcher does not take. -/
theorem decode_of_dispatch_none {p : Params} {x : Presented} (h : dispatch p x.opcode.toNat x.imm = none) :
    decode p x = .illegalOpcode x.opcode := by
  simp [decode, h]

/-- Decoding an encoded instruction, from its opcode as a plain number: both premises evaluate for a closed opcode. -/
theorem decode_of_encode {p : Params} {i : Instr} {o : Nat} {imm : Word} (he : encode p i = ⟨BitVec.ofNat 16 o, imm⟩)
    (ho : o < 65536) (hd : dispatch p o imm = some i) : decode p (encode p i) = .instr i := by
  rw [he]
  apply decode_of_dispatch
  rw [BitVec.toNat_ofNat, Nat.mod_eq_of_lt (by omega)]
  exact hd

end Sys2Proof.Laws
end

