-- ==== Sys2Proof/Laws/State.lean ====
section
/-! SUPPORT. One lemma per field per update, and reads after writes, so that no later proof unfolds a record update. -/

namespace Sys2Proof.Machine

/-! ### An 8-bit register write -/

@[simp] theorem setReg8_f (r : Reg7) (v : Byte) (s : State) : (setReg8 r v s).f = s.f := by cases r <;> rfl
@[simp] theorem setReg8_sp (r : Reg7) (v : Byte) (s : State) : (setReg8 r v s).sp = s.sp := by cases r <;> rfl
@[simp] theorem setReg8_fault (r : Reg7) (v : Byte) (s : State) : (setReg8 r v s).fault = s.fault := by cases r <;> rfl
@[simp] theorem setReg8_params (r : Reg7) (v : Byte) (s : State) : (setReg8 r v s).params = s.params := by cases r <;> rfl
@[simp] theorem setReg8_loaded (r : Reg7) (v : Byte) (s : State) : (setReg8 r v s).loaded = s.loaded := by cases r <;> rfl
@[simp] theorem setReg8_inputs (r : Reg7) (v : Byte) (s : State) : (setReg8 r v s).inputs = s.inputs := by cases r <;> rfl
@[simp] theorem setReg8_replies (r : Reg7) (v : Byte) (s : State) : (setReg8 r v s).replies = s.replies := by cases r <;> rfl

@[simp] theorem reg8_setReg8_self (r : Reg7) (v : Byte) (s : State) : reg8 r (setReg8 r v s) = v := by cases r <;> rfl

/-- A register write leaves every other register alone. -/
theorem reg8_setReg8_of_ne (q r : Reg7) (v : Byte) (s : State) (h : q ≠ r) : reg8 q (setReg8 r v s) = reg8 q s := by
  cases q <;> cases r <;> first | rfl | exact absurd rfl h

/-- Writing a register's own value changes nothing (30_encoding.md R52). -/
@[simp] theorem setReg8_reg8 (r : Reg7) (s : State) : setReg8 r (reg8 r s) s = s := by cases r <;> rfl

/-! ### A pair write -/

@[simp] theorem setPair_a (p : Pair) (v : Word) (s : State) : (setPair p v s).a = s.a := by cases p <;> rfl
@[simp] theorem setPair_f (p : Pair) (v : Word) (s : State) : (setPair p v s).f = s.f := by cases p <;> rfl
@[simp] theorem setPair_fault (p : Pair) (v : Word) (s : State) : (setPair p v s).fault = s.fault := by cases p <;> rfl
@[simp] theorem setPair_params (p : Pair) (v : Word) (s : State) : (setPair p v s).params = s.params := by cases p <;> rfl
@[simp] theorem setPair_loaded (p : Pair) (v : Word) (s : State) : (setPair p v s).loaded = s.loaded := by cases p <;> rfl
@[simp] theorem setPair_inputs (p : Pair) (v : Word) (s : State) : (setPair p v s).inputs = s.inputs := by cases p <;> rfl
@[simp] theorem setPair_replies (p : Pair) (v : Word) (s : State) : (setPair p v s).replies = s.replies := by cases p <;> rfl

@[simp] theorem highByte_joinBytes (hi lo : Byte) : highByte (joinBytes hi lo) = hi := by
  apply BitVec.eq_of_getLsbD_eq
  intro i hi'
  have h1 : 8 + i < 16 := by omega
  simp [highByte, joinBytes, hi', h1]

@[simp] theorem lowByte_joinBytes (hi lo : Byte) : lowByte (joinBytes hi lo) = lo := by
  apply BitVec.eq_of_getLsbD_eq
  intro i hi'
  simp [lowByte, joinBytes, hi']
  intro _
  omega

@[simp] theorem joinBytes_high_low (v : Word) : joinBytes (highByte v) (lowByte v) = v := by
  apply BitVec.eq_of_getLsbD_eq
  intro i hi'
  by_cases h : i < 8
  · simp [highByte, lowByte, joinBytes, h, hi']
  · have h8 : 8 + (i - 8) = i := by omega
    simp [highByte, lowByte, joinBytes, h, hi', h8]
    omega

@[simp] theorem pair_setPair_self (p : Pair) (v : Word) (s : State) : pair p (setPair p v s) = v := by
  cases p <;> simp [pair, setPair]

@[simp] theorem setPair_pair (p : Pair) (s : State) : setPair p (pair p s) s = s := by
  cases p <;> simp [pair, setPair]

/-- A pair write leaves every other pair alone: the pairs share no storage. -/
theorem pair_setPair_of_ne (q p : Pair) (v : Word) (s : State) (h : q ≠ p) : pair q (setPair p v s) = pair q s := by
  cases q <;> cases p <;> first | rfl | exact absurd rfl h

/-! ### A flag write -/

@[simp] theorem setFlags_a (v : Byte) (s : State) : (setFlags v s).a = s.a := rfl
@[simp] theorem setFlags_f (v : Byte) (s : State) : (setFlags v s).f = v := rfl
@[simp] theorem setFlags_b (v : Byte) (s : State) : (setFlags v s).b = s.b := rfl
@[simp] theorem setFlags_c (v : Byte) (s : State) : (setFlags v s).c = s.c := rfl
@[simp] theorem setFlags_d (v : Byte) (s : State) : (setFlags v s).d = s.d := rfl
@[simp] theorem setFlags_e (v : Byte) (s : State) : (setFlags v s).e = s.e := rfl
@[simp] theorem setFlags_h (v : Byte) (s : State) : (setFlags v s).h = s.h := rfl
@[simp] theorem setFlags_l (v : Byte) (s : State) : (setFlags v s).l = s.l := rfl
@[simp] theorem setFlags_sp (v : Byte) (s : State) : (setFlags v s).sp = s.sp := rfl
@[simp] theorem setFlags_fault (v : Byte) (s : State) : (setFlags v s).fault = s.fault := rfl
@[simp] theorem setFlags_params (v : Byte) (s : State) : (setFlags v s).params = s.params := rfl
@[simp] theorem setFlags_loaded (v : Byte) (s : State) : (setFlags v s).loaded = s.loaded := rfl
@[simp] theorem setFlags_inputs (v : Byte) (s : State) : (setFlags v s).inputs = s.inputs := rfl
@[simp] theorem setFlags_replies (v : Byte) (s : State) : (setFlags v s).replies = s.replies := rfl

@[simp] theorem reg8_setFlags (r : Reg7) (v : Byte) (s : State) : reg8 r (setFlags v s) = reg8 r s := by cases r <;> rfl

@[simp] theorem pair_setFlags (p : Pair) (v : Byte) (s : State) : pair p (setFlags v s) = pair p s := by cases p <;> rfl

/-! ### A result with its flags -/

@[simp] theorem putOut8_sp (r : Reg7) (o : Out8) (s : State) : (putOut8 r o s).sp = s.sp := by simp [putOut8]
@[simp] theorem putOut8_fault (r : Reg7) (o : Out8) (s : State) : (putOut8 r o s).fault = s.fault := by simp [putOut8]
@[simp] theorem putOut8_params (r : Reg7) (o : Out8) (s : State) : (putOut8 r o s).params = s.params := by simp [putOut8]
@[simp] theorem putOut8_loaded (r : Reg7) (o : Out8) (s : State) : (putOut8 r o s).loaded = s.loaded := by simp [putOut8]
@[simp] theorem putOut8_inputs (r : Reg7) (o : Out8) (s : State) : (putOut8 r o s).inputs = s.inputs := by simp [putOut8]
@[simp] theorem putOut8_replies (r : Reg7) (o : Out8) (s : State) : (putOut8 r o s).replies = s.replies := by simp [putOut8]
@[simp] theorem putOut8_f (r : Reg7) (o : Out8) (s : State) : (putOut8 r o s).f = o.flags := rfl
@[simp] theorem putOutHl_a (o : Out16) (s : State) : (putOutHl o s).a = s.a := rfl
@[simp] theorem putOutHl_b (o : Out16) (s : State) : (putOutHl o s).b = s.b := rfl
@[simp] theorem putOutHl_c (o : Out16) (s : State) : (putOutHl o s).c = s.c := rfl
@[simp] theorem putOutHl_d (o : Out16) (s : State) : (putOutHl o s).d = s.d := rfl
@[simp] theorem putOutHl_e (o : Out16) (s : State) : (putOutHl o s).e = s.e := rfl
@[simp] theorem putOutHl_sp (o : Out16) (s : State) : (putOutHl o s).sp = s.sp := rfl
@[simp] theorem putOutHl_fault (o : Out16) (s : State) : (putOutHl o s).fault = s.fault := rfl
@[simp] theorem putOutHl_params (o : Out16) (s : State) : (putOutHl o s).params = s.params := rfl
@[simp] theorem putOutHl_loaded (o : Out16) (s : State) : (putOutHl o s).loaded = s.loaded := rfl
@[simp] theorem putOutHl_inputs (o : Out16) (s : State) : (putOutHl o s).inputs = s.inputs := rfl
@[simp] theorem putOutHl_replies (o : Out16) (s : State) : (putOutHl o s).replies = s.replies := rfl
@[simp] theorem putOutHl_f (o : Out16) (s : State) : (putOutHl o s).f = o.flags := rfl

/-! ### The exception and the host operations -/

@[simp] theorem raiseIllegalOpcode_a (o : Word) (s : State) : (raiseIllegalOpcode o s).a = s.a := rfl
@[simp] theorem raiseIllegalOpcode_f (o : Word) (s : State) : (raiseIllegalOpcode o s).f = s.f := rfl
@[simp] theorem raiseIllegalOpcode_b (o : Word) (s : State) : (raiseIllegalOpcode o s).b = s.b := rfl
@[simp] theorem raiseIllegalOpcode_c (o : Word) (s : State) : (raiseIllegalOpcode o s).c = s.c := rfl
@[simp] theorem raiseIllegalOpcode_d (o : Word) (s : State) : (raiseIllegalOpcode o s).d = s.d := rfl
@[simp] theorem raiseIllegalOpcode_e (o : Word) (s : State) : (raiseIllegalOpcode o s).e = s.e := rfl
@[simp] theorem raiseIllegalOpcode_h (o : Word) (s : State) : (raiseIllegalOpcode o s).h = s.h := rfl
@[simp] theorem raiseIllegalOpcode_l (o : Word) (s : State) : (raiseIllegalOpcode o s).l = s.l := rfl
@[simp] theorem raiseIllegalOpcode_sp (o : Word) (s : State) : (raiseIllegalOpcode o s).sp = s.sp := rfl
@[simp] theorem raiseIllegalOpcode_fault (o : Word) (s : State) : (raiseIllegalOpcode o s).fault = ⟨true, o⟩ := rfl
@[simp] theorem raiseIllegalOpcode_params (o : Word) (s : State) : (raiseIllegalOpcode o s).params = s.params := rfl
@[simp] theorem raiseIllegalOpcode_loaded (o : Word) (s : State) : (raiseIllegalOpcode o s).loaded = s.loaded := rfl
@[simp] theorem raiseIllegalOpcode_inputs (o : Word) (s : State) : (raiseIllegalOpcode o s).inputs = s.inputs := rfl
@[simp] theorem raiseIllegalOpcode_replies (o : Word) (s : State) : (raiseIllegalOpcode o s).replies = s.replies := rfl
@[simp] theorem outOfRange_a (o : Word) (s : State) : (outOfRange o s).a = s.a := by unfold outOfRange; split <;> rfl
@[simp] theorem outOfRange_f (o : Word) (s : State) : (outOfRange o s).f = s.f := by unfold outOfRange; split <;> rfl
@[simp] theorem outOfRange_b (o : Word) (s : State) : (outOfRange o s).b = s.b := by unfold outOfRange; split <;> rfl
@[simp] theorem outOfRange_c (o : Word) (s : State) : (outOfRange o s).c = s.c := by unfold outOfRange; split <;> rfl
@[simp] theorem outOfRange_d (o : Word) (s : State) : (outOfRange o s).d = s.d := by unfold outOfRange; split <;> rfl
@[simp] theorem outOfRange_e (o : Word) (s : State) : (outOfRange o s).e = s.e := by unfold outOfRange; split <;> rfl
@[simp] theorem outOfRange_h (o : Word) (s : State) : (outOfRange o s).h = s.h := by unfold outOfRange; split <;> rfl
@[simp] theorem outOfRange_l (o : Word) (s : State) : (outOfRange o s).l = s.l := by unfold outOfRange; split <;> rfl
@[simp] theorem outOfRange_sp (o : Word) (s : State) : (outOfRange o s).sp = s.sp := by unfold outOfRange; split <;> rfl
@[simp] theorem outOfRange_params (o : Word) (s : State) : (outOfRange o s).params = s.params := by unfold outOfRange; split <;> rfl
@[simp] theorem outOfRange_loaded (o : Word) (s : State) : (outOfRange o s).loaded = s.loaded := by unfold outOfRange; split <;> rfl
@[simp] theorem outOfRange_inputs (o : Word) (s : State) : (outOfRange o s).inputs = s.inputs := by unfold outOfRange; split <;> rfl
@[simp] theorem outOfRange_replies (o : Word) (s : State) : (outOfRange o s).replies = s.replies := by unfold outOfRange; split <;> rfl
@[simp] theorem hostReset_a (s : State) : (hostReset s).a = State.reset.a := rfl
@[simp] theorem hostReset_f (s : State) : (hostReset s).f = State.reset.f := rfl
@[simp] theorem hostReset_b (s : State) : (hostReset s).b = State.reset.b := rfl
@[simp] theorem hostReset_c (s : State) : (hostReset s).c = State.reset.c := rfl
@[simp] theorem hostReset_d (s : State) : (hostReset s).d = State.reset.d := rfl
@[simp] theorem hostReset_e (s : State) : (hostReset s).e = State.reset.e := rfl
@[simp] theorem hostReset_h (s : State) : (hostReset s).h = State.reset.h := rfl
@[simp] theorem hostReset_l (s : State) : (hostReset s).l = State.reset.l := rfl
@[simp] theorem hostReset_sp (s : State) : (hostReset s).sp = State.reset.sp := rfl
@[simp] theorem hostReset_fault (s : State) : (hostReset s).fault = State.reset.fault := rfl
@[simp] theorem hostReset_params (s : State) : (hostReset s).params = s.params := rfl
@[simp] theorem hostReset_loaded (s : State) : (hostReset s).loaded = State.reset.loaded := rfl
@[simp] theorem hostReset_inputs (s : State) : (hostReset s).inputs = s.inputs := rfl
@[simp] theorem hostReset_replies (s : State) : (hostReset s).replies = s.replies := rfl
@[simp] theorem loadImage_a (m : Image) (s : State) : (loadImage m s).a = m[0] := rfl
@[simp] theorem loadImage_f (m : Image) (s : State) : (loadImage m s).f = m[1] := rfl
@[simp] theorem loadImage_b (m : Image) (s : State) : (loadImage m s).b = m[2] := rfl
@[simp] theorem loadImage_c (m : Image) (s : State) : (loadImage m s).c = m[3] := rfl
@[simp] theorem loadImage_d (m : Image) (s : State) : (loadImage m s).d = m[4] := rfl
@[simp] theorem loadImage_e (m : Image) (s : State) : (loadImage m s).e = m[5] := rfl
@[simp] theorem loadImage_h (m : Image) (s : State) : (loadImage m s).h = m[6] := rfl
@[simp] theorem loadImage_l (m : Image) (s : State) : (loadImage m s).l = m[7] := rfl
@[simp] theorem loadImage_sp (m : Image) (s : State) : (loadImage m s).sp = joinBytes m[9] m[8] := rfl
@[simp] theorem loadImage_fault (m : Image) (s : State) : (loadImage m s).fault = s.fault := rfl
@[simp] theorem loadImage_params (m : Image) (s : State) : (loadImage m s).params = s.params := rfl
@[simp] theorem loadImage_loaded (m : Image) (s : State) : (loadImage m s).loaded = true := rfl
@[simp] theorem loadImage_inputs (m : Image) (s : State) : (loadImage m s).inputs = s.inputs := rfl
@[simp] theorem loadImage_replies (m : Image) (s : State) : (loadImage m s).replies = s.replies := rfl
@[simp] theorem reply_a (r : Reply) (s : State) : (reply r s).a = s.a := rfl
@[simp] theorem reply_f (r : Reply) (s : State) : (reply r s).f = s.f := rfl
@[simp] theorem reply_b (r : Reply) (s : State) : (reply r s).b = s.b := rfl
@[simp] theorem reply_c (r : Reply) (s : State) : (reply r s).c = s.c := rfl
@[simp] theorem reply_d (r : Reply) (s : State) : (reply r s).d = s.d := rfl
@[simp] theorem reply_e (r : Reply) (s : State) : (reply r s).e = s.e := rfl
@[simp] theorem reply_h (r : Reply) (s : State) : (reply r s).h = s.h := rfl
@[simp] theorem reply_l (r : Reply) (s : State) : (reply r s).l = s.l := rfl
@[simp] theorem reply_sp (r : Reply) (s : State) : (reply r s).sp = s.sp := rfl
@[simp] theorem reply_fault (r : Reply) (s : State) : (reply r s).fault = s.fault := rfl
@[simp] theorem reply_params (r : Reply) (s : State) : (reply r s).params = s.params := rfl
@[simp] theorem reply_loaded (r : Reply) (s : State) : (reply r s).loaded = s.loaded := rfl
@[simp] theorem reply_inputs (r : Reply) (s : State) : (reply r s).inputs = s.inputs := rfl
@[simp] theorem reply_replies (r : Reply) (s : State) : (reply r s).replies = s.replies ++ [r] := rfl

end Sys2Proof.Machine
end

