-- ==== Sys2Proof/Laws/Step.lean ====
section
/-! SUPPORT. What one step, one host operation and one execute can do, said once. -/

namespace Sys2Proof.Machine

/-- With nothing presented there is no step. -/
theorem step_of_nil {s : State} (h : s.inputs = []) : step s = .refused .nothingPresented := by
  simp [step, takeInput, h]

/-- A step takes the host's next operation off the list and performs it. -/
theorem step_of_cons {s : State} {op : HostOp} {rest : List HostOp} (h : s.inputs = op :: rest) :
    step s = perform op { s with inputs := rest } := by
  simp [step, takeInput, h]

/-- Everything a step that answers a next state can be. -/
theorem step_next_cases {s t : State} (h : step s = .next t) :
    ∃ op rest, s.inputs = op :: rest ∧ perform op { s with inputs := rest } = .next t := by
  cases hi : s.inputs with
  | nil => rw [step_of_nil hi] at h; cases h
  | cons op rest => exact ⟨op, rest, rfl, by rw [← step_of_cons hi, h]⟩

/-- A set latch stops every execute (60_exceptions.md R116). -/
theorem execute_of_latched {s : State} (x : Presented) (h : s.fault.valid = true) : execute x s = .fault .latched := by
  simp [execute, h]

/-- With the latch clear an execute of a decodable pair is its instruction's meaning. -/
theorem execute_of_instr {s : State} {x : Presented} {i : Instr} (hv : s.fault.valid = false)
    (hd : decode s.params x = .instr i) : execute x s = exec i s := by
  simp [execute, hv, hd]

/-- With the latch clear an execute of an out-of-range pair follows the policy. -/
theorem execute_of_illegal {s : State} {x : Presented} {o : Word} (hv : s.fault.valid = false)
    (hd : decode s.params x = .illegalOpcode o) : execute x s = .next (outOfRange o s) := by
  simp [execute, hv, hd]

/-- Everything an execute that answers a next state can be. -/
theorem execute_next_cases {x : Presented} {s t : State} (h : execute x s = .next t) :
    s.fault.valid = false ∧
      ((∃ i, decode s.params x = .instr i ∧ exec i s = .next t) ∨
        ∃ o, decode s.params x = .illegalOpcode o ∧ t = outOfRange o s) := by
  cases hv : s.fault.valid with
  | true => rw [execute_of_latched x hv] at h; cases h
  | false =>
    refine ⟨rfl, ?_⟩
    cases hd : decode s.params x with
    | instr i => exact .inl ⟨i, rfl, by rw [← execute_of_instr hv hd, h]⟩
    | illegalOpcode o =>
      rw [execute_of_illegal hv hd] at h
      exact .inr ⟨o, rfl, by cases h; rfl⟩

/-- Everything a host operation that answers a next state can be. -/
theorem perform_next_cases {op : HostOp} {s t : State} (h : perform op s = .next t) :
    (op = .reset ∧ t = hostReset s) ∨ (∃ m, op = .loadState m ∧ t = loadImage m s) ∨
      (∃ x, op = .execute x ∧ execute x s = .next t) ∨ (op = .readState ∧ t = readState s) ∨
      (op = .readFault ∧ t = readFault s) := by
  cases op <;> simp_all [perform]

end Sys2Proof.Machine
end

