-- ==== Sys2Proof/Machine/Assembly.lean ====
section
/-! DEFINITION. The assembly syntax (30_encoding.md R56): how each instruction is spelled, and which pair a line stands
for. No step depends on it. -/

namespace Sys2Proof.Machine

/-- A decimal digit's value. -/
def digitValue (c : Char) : Option Nat :=
  if 48 ≤ c.toNat ∧ c.toNat ≤ 57 then some (c.toNat - 48) else none

/-- A hexadecimal digit's value. -/
def hexDigitValue (c : Char) : Option Nat :=
  if 65 ≤ c.toNat ∧ c.toNat ≤ 70 then some (c.toNat - 55)
  else if 97 ≤ c.toNat ∧ c.toNat ≤ 102 then some (c.toNat - 87)
  else digitValue c

/-- The value of a digit string in a base, most significant digit first. -/
def digitsValue (base : Nat) (digit : Char → Option Nat) : Nat → List Char → Option Nat
  | acc, [] => some acc
  | acc, c :: rest =>
    match digit c with
    | some v => digitsValue base digit (acc * base + v) rest
    | none => none

/-- The value of a number written in decimal or as `0x` hexadecimal (R56). -/
def numberValue : List Char → Option Nat
  | [] => none
  | '0' :: 'x' :: c :: rest => digitsValue 16 hexDigitValue 0 (c :: rest)
  | c :: rest => digitsValue 10 digitValue 0 (c :: rest)

/-- The text of an instruction up to its immediate, in the opcode table's own spelling, and the immediate if it has one. -/
def spelling : Instr → String × Option Nat
  | .ldAA => ("LD A,A", none)
  | .ldAB => ("LD A,B", none)
  | .ldAC => ("LD A,C", none)
  | .ldAD => ("LD A,D", none)
  | .ldAE => ("LD A,E", none)
  | .ldAH => ("LD A,H", none)
  | .ldAL => ("LD A,L", none)
  | .ldBA => ("LD B,A", none)
  | .ldBB => ("LD B,B", none)
  | .ldBC => ("LD B,C", none)
  | .ldBD => ("LD B,D", none)
  | .ldBE => ("LD B,E", none)
  | .ldBH => ("LD B,H", none)
  | .ldBL => ("LD B,L", none)
  | .ldCA => ("LD C,A", none)
  | .ldCB => ("LD C,B", none)
  | .ldCC => ("LD C,C", none)
  | .ldCD => ("LD C,D", none)
  | .ldCE => ("LD C,E", none)
  | .ldCH => ("LD C,H", none)
  | .ldCL => ("LD C,L", none)
  | .ldDA => ("LD D,A", none)
  | .ldDB => ("LD D,B", none)
  | .ldDC => ("LD D,C", none)
  | .ldDD => ("LD D,D", none)
  | .ldDE => ("LD D,E", none)
  | .ldDH => ("LD D,H", none)
  | .ldDL => ("LD D,L", none)
  | .ldEA => ("LD E,A", none)
  | .ldEB => ("LD E,B", none)
  | .ldEC => ("LD E,C", none)
  | .ldED => ("LD E,D", none)
  | .ldEE => ("LD E,E", none)
  | .ldEH => ("LD E,H", none)
  | .ldEL => ("LD E,L", none)
  | .ldHA => ("LD H,A", none)
  | .ldHB => ("LD H,B", none)
  | .ldHC => ("LD H,C", none)
  | .ldHD => ("LD H,D", none)
  | .ldHE => ("LD H,E", none)
  | .ldHH => ("LD H,H", none)
  | .ldHL => ("LD H,L", none)
  | .ldLA => ("LD L,A", none)
  | .ldLB => ("LD L,B", none)
  | .ldLC => ("LD L,C", none)
  | .ldLD => ("LD L,D", none)
  | .ldLE => ("LD L,E", none)
  | .ldLH => ("LD L,H", none)
  | .ldLL => ("LD L,L", none)
  | .ldAImm n => ("LD A,", some n.toNat)
  | .ldBImm n => ("LD B,", some n.toNat)
  | .ldCImm n => ("LD C,", some n.toNat)
  | .ldDImm n => ("LD D,", some n.toNat)
  | .ldEImm n => ("LD E,", some n.toNat)
  | .ldHImm n => ("LD H,", some n.toNat)
  | .ldLImm n => ("LD L,", some n.toNat)
  | .addAA => ("ADD A,A", none)
  | .addAB => ("ADD A,B", none)
  | .addAC => ("ADD A,C", none)
  | .addAD => ("ADD A,D", none)
  | .addAE => ("ADD A,E", none)
  | .addAH => ("ADD A,H", none)
  | .addAL => ("ADD A,L", none)
  | .adcAA => ("ADC A,A", none)
  | .adcAB => ("ADC A,B", none)
  | .adcAC => ("ADC A,C", none)
  | .adcAD => ("ADC A,D", none)
  | .adcAE => ("ADC A,E", none)
  | .adcAH => ("ADC A,H", none)
  | .adcAL => ("ADC A,L", none)
  | .subA => ("SUB A", none)
  | .subB => ("SUB B", none)
  | .subC => ("SUB C", none)
  | .subD => ("SUB D", none)
  | .subE => ("SUB E", none)
  | .subH => ("SUB H", none)
  | .subL => ("SUB L", none)
  | .sbcAA => ("SBC A,A", none)
  | .sbcAB => ("SBC A,B", none)
  | .sbcAC => ("SBC A,C", none)
  | .sbcAD => ("SBC A,D", none)
  | .sbcAE => ("SBC A,E", none)
  | .sbcAH => ("SBC A,H", none)
  | .sbcAL => ("SBC A,L", none)
  | .andA => ("AND A", none)
  | .andB => ("AND B", none)
  | .andC => ("AND C", none)
  | .andD => ("AND D", none)
  | .andE => ("AND E", none)
  | .andH => ("AND H", none)
  | .andL => ("AND L", none)
  | .xorA => ("XOR A", none)
  | .xorB => ("XOR B", none)
  | .xorC => ("XOR C", none)
  | .xorD => ("XOR D", none)
  | .xorE => ("XOR E", none)
  | .xorH => ("XOR H", none)
  | .xorL => ("XOR L", none)
  | .orA => ("OR A", none)
  | .orB => ("OR B", none)
  | .orC => ("OR C", none)
  | .orD => ("OR D", none)
  | .orE => ("OR E", none)
  | .orH => ("OR H", none)
  | .orL => ("OR L", none)
  | .cpA => ("CP A", none)
  | .cpB => ("CP B", none)
  | .cpC => ("CP C", none)
  | .cpD => ("CP D", none)
  | .cpE => ("CP E", none)
  | .cpH => ("CP H", none)
  | .cpL => ("CP L", none)
  | .incB => ("INC B", none)
  | .incC => ("INC C", none)
  | .incD => ("INC D", none)
  | .incE => ("INC E", none)
  | .incH => ("INC H", none)
  | .incL => ("INC L", none)
  | .incA => ("INC A", none)
  | .decB => ("DEC B", none)
  | .decC => ("DEC C", none)
  | .decD => ("DEC D", none)
  | .decE => ("DEC E", none)
  | .decH => ("DEC H", none)
  | .decL => ("DEC L", none)
  | .decA => ("DEC A", none)
  | .rlca => ("RLCA", none)
  | .rrca => ("RRCA", none)
  | .rla => ("RLA", none)
  | .rra => ("RRA", none)
  | .daa => ("DAA", none)
  | .cpl => ("CPL", none)
  | .scf => ("SCF", none)
  | .ccf => ("CCF", none)
  | .neg => ("NEG", none)
  | .nop => ("NOP", none)
  | .rlcB => ("RLC B", none)
  | .rlcC => ("RLC C", none)
  | .rlcD => ("RLC D", none)
  | .rlcE => ("RLC E", none)
  | .rlcH => ("RLC H", none)
  | .rlcL => ("RLC L", none)
  | .rlcA => ("RLC A", none)
  | .rrcB => ("RRC B", none)
  | .rrcC => ("RRC C", none)
  | .rrcD => ("RRC D", none)
  | .rrcE => ("RRC E", none)
  | .rrcH => ("RRC H", none)
  | .rrcL => ("RRC L", none)
  | .rrcA => ("RRC A", none)
  | .rlB => ("RL B", none)
  | .rlC => ("RL C", none)
  | .rlD => ("RL D", none)
  | .rlE => ("RL E", none)
  | .rlH => ("RL H", none)
  | .rlL => ("RL L", none)
  | .rlA => ("RL A", none)
  | .rrB => ("RR B", none)
  | .rrC => ("RR C", none)
  | .rrD => ("RR D", none)
  | .rrE => ("RR E", none)
  | .rrH => ("RR H", none)
  | .rrL => ("RR L", none)
  | .rrA => ("RR A", none)
  | .slaB => ("SLA B", none)
  | .slaC => ("SLA C", none)
  | .slaD => ("SLA D", none)
  | .slaE => ("SLA E", none)
  | .slaH => ("SLA H", none)
  | .slaL => ("SLA L", none)
  | .slaA => ("SLA A", none)
  | .sraB => ("SRA B", none)
  | .sraC => ("SRA C", none)
  | .sraD => ("SRA D", none)
  | .sraE => ("SRA E", none)
  | .sraH => ("SRA H", none)
  | .sraL => ("SRA L", none)
  | .sraA => ("SRA A", none)
  | .srlB => ("SRL B", none)
  | .srlC => ("SRL C", none)
  | .srlD => ("SRL D", none)
  | .srlE => ("SRL E", none)
  | .srlH => ("SRL H", none)
  | .srlL => ("SRL L", none)
  | .srlA => ("SRL A", none)
  | .sllC => ("SLL C", none)
  | .sllD => ("SLL D", none)
  | .sllE => ("SLL E", none)
  | .sllH => ("SLL H", none)
  | .sllL => ("SLL L", none)
  | .sllA => ("SLL A", none)
  | .sllB => ("SLL B", none)
  | .bit0B => ("BIT 0,B", none)
  | .bit0C => ("BIT 0,C", none)
  | .bit0D => ("BIT 0,D", none)
  | .bit0E => ("BIT 0,E", none)
  | .bit0H => ("BIT 0,H", none)
  | .bit0L => ("BIT 0,L", none)
  | .bit0A => ("BIT 0,A", none)
  | .bit1B => ("BIT 1,B", none)
  | .bit1C => ("BIT 1,C", none)
  | .bit1D => ("BIT 1,D", none)
  | .bit1E => ("BIT 1,E", none)
  | .bit1H => ("BIT 1,H", none)
  | .bit1L => ("BIT 1,L", none)
  | .bit1A => ("BIT 1,A", none)
  | .bit2B => ("BIT 2,B", none)
  | .bit2C => ("BIT 2,C", none)
  | .bit2D => ("BIT 2,D", none)
  | .bit2E => ("BIT 2,E", none)
  | .bit2H => ("BIT 2,H", none)
  | .bit2L => ("BIT 2,L", none)
  | .bit2A => ("BIT 2,A", none)
  | .bit3B => ("BIT 3,B", none)
  | .bit3C => ("BIT 3,C", none)
  | .bit3D => ("BIT 3,D", none)
  | .bit3E => ("BIT 3,E", none)
  | .bit3H => ("BIT 3,H", none)
  | .bit3L => ("BIT 3,L", none)
  | .bit3A => ("BIT 3,A", none)
  | .bit4B => ("BIT 4,B", none)
  | .bit4C => ("BIT 4,C", none)
  | .bit4D => ("BIT 4,D", none)
  | .bit4E => ("BIT 4,E", none)
  | .bit4H => ("BIT 4,H", none)
  | .bit4L => ("BIT 4,L", none)
  | .bit4A => ("BIT 4,A", none)
  | .bit5B => ("BIT 5,B", none)
  | .bit5C => ("BIT 5,C", none)
  | .bit5D => ("BIT 5,D", none)
  | .bit5E => ("BIT 5,E", none)
  | .bit5H => ("BIT 5,H", none)
  | .bit5L => ("BIT 5,L", none)
  | .bit5A => ("BIT 5,A", none)
  | .bit6B => ("BIT 6,B", none)
  | .bit6C => ("BIT 6,C", none)
  | .bit6D => ("BIT 6,D", none)
  | .bit6E => ("BIT 6,E", none)
  | .bit6H => ("BIT 6,H", none)
  | .bit6L => ("BIT 6,L", none)
  | .bit6A => ("BIT 6,A", none)
  | .bit7B => ("BIT 7,B", none)
  | .bit7C => ("BIT 7,C", none)
  | .bit7D => ("BIT 7,D", none)
  | .bit7E => ("BIT 7,E", none)
  | .bit7H => ("BIT 7,H", none)
  | .bit7L => ("BIT 7,L", none)
  | .bit7A => ("BIT 7,A", none)
  | .res0B => ("RES 0,B", none)
  | .res0C => ("RES 0,C", none)
  | .res0D => ("RES 0,D", none)
  | .res0E => ("RES 0,E", none)
  | .res0H => ("RES 0,H", none)
  | .res0L => ("RES 0,L", none)
  | .res0A => ("RES 0,A", none)
  | .res1B => ("RES 1,B", none)
  | .res1C => ("RES 1,C", none)
  | .res1D => ("RES 1,D", none)
  | .res1E => ("RES 1,E", none)
  | .res1H => ("RES 1,H", none)
  | .res1L => ("RES 1,L", none)
  | .res1A => ("RES 1,A", none)
  | .res2B => ("RES 2,B", none)
  | .res2C => ("RES 2,C", none)
  | .res2D => ("RES 2,D", none)
  | .res2E => ("RES 2,E", none)
  | .res2H => ("RES 2,H", none)
  | .res2L => ("RES 2,L", none)
  | .res2A => ("RES 2,A", none)
  | .res3B => ("RES 3,B", none)
  | .res3C => ("RES 3,C", none)
  | .res3D => ("RES 3,D", none)
  | .res3E => ("RES 3,E", none)
  | .res3H => ("RES 3,H", none)
  | .res3L => ("RES 3,L", none)
  | .res3A => ("RES 3,A", none)
  | .res4B => ("RES 4,B", none)
  | .res4C => ("RES 4,C", none)
  | .res4D => ("RES 4,D", none)
  | .res4E => ("RES 4,E", none)
  | .res4H => ("RES 4,H", none)
  | .res4L => ("RES 4,L", none)
  | .res4A => ("RES 4,A", none)
  | .res5B => ("RES 5,B", none)
  | .res5C => ("RES 5,C", none)
  | .res5D => ("RES 5,D", none)
  | .res5E => ("RES 5,E", none)
  | .res5H => ("RES 5,H", none)
  | .res5L => ("RES 5,L", none)
  | .res5A => ("RES 5,A", none)
  | .res6B => ("RES 6,B", none)
  | .res6C => ("RES 6,C", none)
  | .res6D => ("RES 6,D", none)
  | .res6E => ("RES 6,E", none)
  | .res6H => ("RES 6,H", none)
  | .res6L => ("RES 6,L", none)
  | .res6A => ("RES 6,A", none)
  | .res7B => ("RES 7,B", none)
  | .res7C => ("RES 7,C", none)
  | .res7D => ("RES 7,D", none)
  | .res7E => ("RES 7,E", none)
  | .res7H => ("RES 7,H", none)
  | .res7L => ("RES 7,L", none)
  | .res7A => ("RES 7,A", none)
  | .set0B => ("SET 0,B", none)
  | .set0C => ("SET 0,C", none)
  | .set0D => ("SET 0,D", none)
  | .set0E => ("SET 0,E", none)
  | .set0H => ("SET 0,H", none)
  | .set0L => ("SET 0,L", none)
  | .set0A => ("SET 0,A", none)
  | .set1B => ("SET 1,B", none)
  | .set1C => ("SET 1,C", none)
  | .set1D => ("SET 1,D", none)
  | .set1E => ("SET 1,E", none)
  | .set1H => ("SET 1,H", none)
  | .set1L => ("SET 1,L", none)
  | .set1A => ("SET 1,A", none)
  | .set2B => ("SET 2,B", none)
  | .set2C => ("SET 2,C", none)
  | .set2D => ("SET 2,D", none)
  | .set2E => ("SET 2,E", none)
  | .set2H => ("SET 2,H", none)
  | .set2L => ("SET 2,L", none)
  | .set2A => ("SET 2,A", none)
  | .set3B => ("SET 3,B", none)
  | .set3C => ("SET 3,C", none)
  | .set3D => ("SET 3,D", none)
  | .set3E => ("SET 3,E", none)
  | .set3H => ("SET 3,H", none)
  | .set3L => ("SET 3,L", none)
  | .set3A => ("SET 3,A", none)
  | .set4B => ("SET 4,B", none)
  | .set4C => ("SET 4,C", none)
  | .set4D => ("SET 4,D", none)
  | .set4E => ("SET 4,E", none)
  | .set4H => ("SET 4,H", none)
  | .set4L => ("SET 4,L", none)
  | .set4A => ("SET 4,A", none)
  | .set5B => ("SET 5,B", none)
  | .set5C => ("SET 5,C", none)
  | .set5D => ("SET 5,D", none)
  | .set5E => ("SET 5,E", none)
  | .set5H => ("SET 5,H", none)
  | .set5L => ("SET 5,L", none)
  | .set5A => ("SET 5,A", none)
  | .set6B => ("SET 6,B", none)
  | .set6C => ("SET 6,C", none)
  | .set6D => ("SET 6,D", none)
  | .set6E => ("SET 6,E", none)
  | .set6H => ("SET 6,H", none)
  | .set6L => ("SET 6,L", none)
  | .set6A => ("SET 6,A", none)
  | .set7B => ("SET 7,B", none)
  | .set7C => ("SET 7,C", none)
  | .set7D => ("SET 7,D", none)
  | .set7E => ("SET 7,E", none)
  | .set7H => ("SET 7,H", none)
  | .set7L => ("SET 7,L", none)
  | .set7A => ("SET 7,A", none)
  | .incBc => ("INC BC", none)
  | .incDe => ("INC DE", none)
  | .incHl => ("INC HL", none)
  | .incSp => ("INC SP", none)
  | .decBc => ("DEC BC", none)
  | .decDe => ("DEC DE", none)
  | .decHl => ("DEC HL", none)
  | .decSp => ("DEC SP", none)
  | .addHlBc => ("ADD HL,BC", none)
  | .addHlDe => ("ADD HL,DE", none)
  | .addHlHl => ("ADD HL,HL", none)
  | .addHlSp => ("ADD HL,SP", none)
  | .exDeHl => ("EX DE,HL", none)
  | .ldSpHl => ("LD SP,HL", none)
  | .ldBcImm nn => ("LD BC,", some nn.toNat)
  | .ldDeImm nn => ("LD DE,", some nn.toNat)
  | .ldHlImm nn => ("LD HL,", some nn.toNat)
  | .ldSpImm nn => ("LD SP,", some nn.toNat)
  | .adcHlBc => ("ADC HL,BC", none)
  | .adcHlDe => ("ADC HL,DE", none)
  | .adcHlHl => ("ADC HL,HL", none)
  | .adcHlSp => ("ADC HL,SP", none)
  | .sbcHlBc => ("SBC HL,BC", none)
  | .sbcHlDe => ("SBC HL,DE", none)
  | .sbcHlHl => ("SBC HL,HL", none)
  | .sbcHlSp => ("SBC HL,SP", none)

/-- The other spellings an assembler accepts (R56): `SL1 r` and `SLS r` for `SLL r`, and `OR A,A` for `OR A`. -/
def otherSpellings : Instr → List String
  | .orA => ["OR A,A"]
  | .sllB => ["SL1 B", "SLS B"]
  | .sllC => ["SL1 C", "SLS C"]
  | .sllD => ["SL1 D", "SLS D"]
  | .sllE => ["SL1 E", "SLS E"]
  | .sllH => ["SL1 H", "SLS H"]
  | .sllL => ["SL1 L", "SLS L"]
  | .sllA => ["SL1 A", "SLS A"]
  | _ => []

/-- The line spells the instruction. -/
def Spells (line : String) (i : Instr) : Prop :=
  match spelling i with
  | (text, none) => line = text ∨ line ∈ otherSpellings i
  | (text, some n) => ∃ number : List Char, numberValue number = some n ∧ line = text ++ String.ofList number

/-- The line assembles to the pair (R56, R57): one pair a line, with a zero immediate where the instruction has none. -/
def Assembles (p : Params) (line : String) (x : Presented) : Prop :=
  ∃ i, i.wellFormed p = true ∧ Spells line i ∧ x = encode p i

end Sys2Proof.Machine
end

