-- ==== Sys2Proof/Tests/Slice0.lean ====
section
/-! SUPPORT. The model's own tests: ill-formed terms the checks refuse, words of every family written out from the spec's
encoding, one-step tests from 95_test_vectors.md, and a witness for every statement with hypotheses. -/

namespace Sys2Proof.Tests

open Sys2Proof.Machine Sys2Proof.Safety Sys2Proof.Claims

/-! ### Well-formedness refuses -/

/-- A map that names B seven times: no opcode for any other SLL. -/
def mapOfB : Params := { sllRegMap := Vector.replicate 7 .b, oorPolicy := .fault }

theorem test_opcode_386_is_ill_formed : (Presented.mk 386 0).wellFormed = false := by decide

theorem test_opcode_385_is_well_formed : (Presented.mk 385 0).wellFormed = true := by decide

theorem test_map_without_every_register_is_ill_formed : mapOfB.wellFormed = false := by decide

theorem test_default_map_is_well_formed : Params.default.wellFormed = true := by decide

theorem test_sll_outside_the_map_is_ill_formed : Instr.sllA.wellFormed mapOfB = false := by decide

theorem test_sll_inside_the_map_is_well_formed : Instr.sllB.wellFormed mapOfB = true := by decide

/-! ### Every row's word decodes to its instruction (30_encoding.md R45 and spec/opcode_table.json) -/

/-- The decoder gives each listed instruction from its listed word. -/
def decodesTo (nbits : Nat) (ws : List (Nat × Instr)) : Bool :=
  ws.all fun w => decide (decodeTableWord nbits w.1 = some w.2)

theorem test_decode_loads_from_0 : decodesTo 16 [
    (0, .ldAA), (1, .ldAB), (2, .ldAC), (3, .ldAD), (4, .ldAE), (5, .ldAH), (6, .ldAL), (7, .ldBA), (8, .ldBB),
    (9, .ldBC), (10, .ldBD), (11, .ldBE), (12, .ldBH), (13, .ldBL), (14, .ldCA), (15, .ldCB), (16, .ldCC),
    (17, .ldCD), (18, .ldCE), (19, .ldCH), (20, .ldCL), (21, .ldDA), (22, .ldDB), (23, .ldDC), (24, .ldDD),
    (25, .ldDE), (26, .ldDH), (27, .ldDL)] = true := by decide

theorem test_decode_loads_from_28 : decodesTo 16 [
    (28, .ldEA), (29, .ldEB), (30, .ldEC), (31, .ldED), (32, .ldEE), (33, .ldEH), (34, .ldEL), (35, .ldHA),
    (36, .ldHB), (37, .ldHC), (38, .ldHD), (39, .ldHE), (40, .ldHH), (41, .ldHL), (42, .ldLA), (43, .ldLB),
    (44, .ldLC), (45, .ldLD), (46, .ldLE), (47, .ldLH), (48, .ldLL)] = true := by decide

theorem test_decode_immediate_loads : decodesTo 32 [
    (0x123F * 65536 + 49, .ldAImm 0x3F), (0x123F * 65536 + 50, .ldBImm 0x3F), (0x123F * 65536 + 51, .ldCImm 0x3F),
    (0x123F * 65536 + 52, .ldDImm 0x3F), (0x123F * 65536 + 53, .ldEImm 0x3F), (0x123F * 65536 + 54, .ldHImm 0x3F),
    (0x123F * 65536 + 55, .ldLImm 0x3F)] = true := by decide

theorem test_decode_alu_from_56 : decodesTo 16 [
    (56, .addAA), (57, .addAB), (58, .addAC), (59, .addAD), (60, .addAE), (61, .addAH), (62, .addAL), (63, .adcAA),
    (64, .adcAB), (65, .adcAC), (66, .adcAD), (67, .adcAE), (68, .adcAH), (69, .adcAL), (70, .subA), (71, .subB),
    (72, .subC), (73, .subD), (74, .subE), (75, .subH), (76, .subL), (77, .sbcAA), (78, .sbcAB), (79, .sbcAC),
    (80, .sbcAD), (81, .sbcAE), (82, .sbcAH), (83, .sbcAL)] = true := by decide

theorem test_decode_alu_from_84 : decodesTo 16 [
    (84, .andA), (85, .andB), (86, .andC), (87, .andD), (88, .andE), (89, .andH), (90, .andL), (91, .xorA),
    (92, .xorB), (93, .xorC), (94, .xorD), (95, .xorE), (96, .xorH), (97, .xorL), (98, .orA), (99, .orB), (100, .orC),
    (101, .orD), (102, .orE), (103, .orH), (104, .orL), (105, .cpA), (106, .cpB), (107, .cpC), (108, .cpD),
    (109, .cpE), (110, .cpH), (111, .cpL)] = true := by decide

theorem test_decode_inc : decodesTo 16 [
    (112, .incB), (113, .incC), (114, .incD), (115, .incE), (116, .incH), (117, .incL), (118, .incA)] = true := by decide

theorem test_decode_dec : decodesTo 16 [
    (119, .decB), (120, .decC), (121, .decD), (122, .decE), (123, .decH), (124, .decL), (125, .decA)] = true := by decide

theorem test_decode_misc : decodesTo 16 [
    (126, .rlca), (127, .rrca), (128, .rla), (129, .rra), (130, .daa), (131, .cpl), (132, .scf), (133, .ccf),
    (134, .neg), (135, .nop)] = true := by decide

theorem test_decode_rotates_from_136 : decodesTo 16 [
    (136, .rlcB), (137, .rlcC), (138, .rlcD), (139, .rlcE), (140, .rlcH), (141, .rlcL), (142, .rlcA), (143, .rrcB),
    (144, .rrcC), (145, .rrcD), (146, .rrcE), (147, .rrcH), (148, .rrcL), (149, .rrcA), (150, .rlB), (151, .rlC),
    (152, .rlD), (153, .rlE), (154, .rlH), (155, .rlL), (156, .rlA), (157, .rrB), (158, .rrC), (159, .rrD),
    (160, .rrE), (161, .rrH), (162, .rrL), (163, .rrA)] = true := by decide

theorem test_decode_rotates_from_164 : decodesTo 16 [
    (164, .slaB), (165, .slaC), (166, .slaD), (167, .slaE), (168, .slaH), (169, .slaL), (170, .slaA), (171, .sraB),
    (172, .sraC), (173, .sraD), (174, .sraE), (175, .sraH), (176, .sraL), (177, .sraA), (178, .srlB), (179, .srlC),
    (180, .srlD), (181, .srlE), (182, .srlH), (183, .srlL), (184, .srlA)] = true := by decide

theorem test_decode_sll : decodesTo 16 [
    (185, .sllC), (186, .sllD), (187, .sllE), (188, .sllH), (189, .sllL), (190, .sllA), (191, .sllB)] = true := by decide

theorem test_decode_bit_operations_from_192 : decodesTo 16 [
    (192, .bit0B), (193, .bit0C), (194, .bit0D), (195, .bit0E), (196, .bit0H), (197, .bit0L), (198, .bit0A),
    (199, .bit1B), (200, .bit1C), (201, .bit1D), (202, .bit1E), (203, .bit1H), (204, .bit1L), (205, .bit1A),
    (206, .bit2B), (207, .bit2C), (208, .bit2D), (209, .bit2E), (210, .bit2H), (211, .bit2L), (212, .bit2A),
    (213, .bit3B), (214, .bit3C), (215, .bit3D), (216, .bit3E), (217, .bit3H), (218, .bit3L), (219, .bit3A)] = true := by decide

theorem test_decode_bit_operations_from_220 : decodesTo 16 [
    (220, .bit4B), (221, .bit4C), (222, .bit4D), (223, .bit4E), (224, .bit4H), (225, .bit4L), (226, .bit4A),
    (227, .bit5B), (228, .bit5C), (229, .bit5D), (230, .bit5E), (231, .bit5H), (232, .bit5L), (233, .bit5A),
    (234, .bit6B), (235, .bit6C), (236, .bit6D), (237, .bit6E), (238, .bit6H), (239, .bit6L), (240, .bit6A),
    (241, .bit7B), (242, .bit7C), (243, .bit7D), (244, .bit7E), (245, .bit7H), (246, .bit7L), (247, .bit7A)] = true := by decide

theorem test_decode_bit_operations_from_248 : decodesTo 16 [
    (248, .res0B), (249, .res0C), (250, .res0D), (251, .res0E), (252, .res0H), (253, .res0L), (254, .res0A),
    (255, .res1B), (256, .res1C), (257, .res1D), (258, .res1E), (259, .res1H), (260, .res1L), (261, .res1A),
    (262, .res2B), (263, .res2C), (264, .res2D), (265, .res2E), (266, .res2H), (267, .res2L), (268, .res2A),
    (269, .res3B), (270, .res3C), (271, .res3D), (272, .res3E), (273, .res3H), (274, .res3L), (275, .res3A)] = true := by decide

theorem test_decode_bit_operations_from_276 : decodesTo 16 [
    (276, .res4B), (277, .res4C), (278, .res4D), (279, .res4E), (280, .res4H), (281, .res4L), (282, .res4A),
    (283, .res5B), (284, .res5C), (285, .res5D), (286, .res5E), (287, .res5H), (288, .res5L), (289, .res5A),
    (290, .res6B), (291, .res6C), (292, .res6D), (293, .res6E), (294, .res6H), (295, .res6L), (296, .res6A),
    (297, .res7B), (298, .res7C), (299, .res7D), (300, .res7E), (301, .res7H), (302, .res7L), (303, .res7A)] = true := by decide

theorem test_decode_bit_operations_from_304 : decodesTo 16 [
    (304, .set0B), (305, .set0C), (306, .set0D), (307, .set0E), (308, .set0H), (309, .set0L), (310, .set0A),
    (311, .set1B), (312, .set1C), (313, .set1D), (314, .set1E), (315, .set1H), (316, .set1L), (317, .set1A),
    (318, .set2B), (319, .set2C), (320, .set2D), (321, .set2E), (322, .set2H), (323, .set2L), (324, .set2A),
    (325, .set3B), (326, .set3C), (327, .set3D), (328, .set3E), (329, .set3H), (330, .set3L), (331, .set3A)] = true := by decide

theorem test_decode_bit_operations_from_332 : decodesTo 16 [
    (332, .set4B), (333, .set4C), (334, .set4D), (335, .set4E), (336, .set4H), (337, .set4L), (338, .set4A),
    (339, .set5B), (340, .set5C), (341, .set5D), (342, .set5E), (343, .set5H), (344, .set5L), (345, .set5A),
    (346, .set6B), (347, .set6C), (348, .set6D), (349, .set6E), (350, .set6H), (351, .set6L), (352, .set6A),
    (353, .set7B), (354, .set7C), (355, .set7D), (356, .set7E), (357, .set7H), (358, .set7L), (359, .set7A)] = true := by decide

theorem test_decode_pair_inc_dec : decodesTo 16 [
    (360, .incBc), (361, .incDe), (362, .incHl), (363, .incSp), (364, .decBc), (365, .decDe), (366, .decHl),
    (367, .decSp)] = true := by decide

theorem test_decode_add_hl : decodesTo 16 [
    (368, .addHlBc), (369, .addHlDe), (370, .addHlHl), (371, .addHlSp)] = true := by decide

theorem test_decode_exchange : decodesTo 16 [
    (372, .exDeHl)] = true := by decide

theorem test_decode_load_sp : decodesTo 16 [
    (373, .ldSpHl)] = true := by decide

theorem test_decode_pair_immediate_loads : decodesTo 32 [
    (0xBEEF * 65536 + 374, .ldBcImm 0xBEEF), (0xBEEF * 65536 + 375, .ldDeImm 0xBEEF),
    (0xBEEF * 65536 + 376, .ldHlImm 0xBEEF), (0xBEEF * 65536 + 377, .ldSpImm 0xBEEF)] = true := by decide

theorem test_decode_adc_sbc_hl : decodesTo 16 [
    (378, .adcHlBc), (379, .adcHlDe), (380, .adcHlHl), (381, .adcHlSp), (382, .sbcHlBc), (383, .sbcHlDe),
    (384, .sbcHlHl), (385, .sbcHlSp)] = true := by decide

theorem test_decode_refuses_386 : decodeTableWord 16 386 = none := by decide

theorem test_decode_refuses_65535 : decodeTableWord 16 65535 = none := by decide

/-- 30_encoding.md R47: another map sends the SLL opcodes elsewhere. -/
theorem test_decode_sll_follows_the_map : decode mapOfB ⟨185, 0⟩ = .instr .sllB := by decide

/-! ### One step, from 95_test_vectors.md -/

/-- The state of an image written as the spec writes it. -/
def st (a f b c d e h l : Byte) (sp : Word) : State :=
  { State.reset with a := a, f := f, b := b, c := c, d := d, e := e, h := h, l := l, sp := sp }

/-- The next state of one execute, if it answers one. -/
def after (o imm : Word) (s : State) : Option State :=
  match execute ⟨o, imm⟩ s with
  | .next t => some t
  | .fault _ => none
  | .refused _ => none

/-- V1. -/
theorem test_ld_a_b : after 1 0 (st 0x00 0xD7 0x12 0x00 0x00 0x00 0x00 0x00 0x0000) =
    some (st 0x12 0xD7 0x12 0x00 0x00 0x00 0x00 0x00 0x0000) := by decide

/-- V2. -/
theorem test_ld_a_a : after 0 0 (st 0x5A 0x28 0x00 0x00 0x00 0x00 0x00 0x00 0x0000) =
    some (st 0x5A 0x28 0x00 0x00 0x00 0x00 0x00 0x00 0x0000) := by decide

/-- V3. -/
theorem test_ld_l_h : after 47 0 (st 0x00 0x00 0x00 0x00 0x00 0x00 0x80 0x01 0x0000) =
    some (st 0x00 0x00 0x00 0x00 0x00 0x00 0x80 0x80 0x0000) := by decide

/-- V4. -/
theorem test_ld_h_b : after 36 0 (st 0x00 0x00 0x00 0x00 0x00 0x00 0xC3 0x00 0x0000) =
    some (st 0x00 0x00 0x00 0x00 0x00 0x00 0x00 0x00 0x0000) := by decide

/-- V5. -/
theorem test_ld_a_n : after 49 0x0005 (st 0x00 0x00 0x00 0x00 0x00 0x00 0x00 0x00 0x0000) =
    some (st 0x05 0x00 0x00 0x00 0x00 0x00 0x00 0x00 0x0000) := by decide

/-- V6. -/
theorem test_ld_c_n : after 51 0x123F (st 0x00 0xFF 0x00 0x00 0x00 0x00 0x00 0x00 0x0000) =
    some (st 0x00 0xFF 0x00 0x3F 0x00 0x00 0x00 0x00 0x0000) := by decide

/-- V7. -/
theorem test_ld_l_n : after 55 0xFFFF (st 0x00 0x00 0x00 0x00 0x00 0x00 0x00 0x00 0x0000) =
    some (st 0x00 0x00 0x00 0x00 0x00 0x00 0x00 0xFF 0x0000) := by decide

/-- V8. -/
theorem test_add_a_b : after 57 0 (st 0x7F 0x00 0x01 0x00 0x00 0x00 0x00 0x00 0x0000) =
    some (st 0x80 0x94 0x01 0x00 0x00 0x00 0x00 0x00 0x0000) := by decide

/-- V9. -/
theorem test_add_a_a : after 56 0 (st 0x80 0x00 0x00 0x00 0x00 0x00 0x00 0x00 0x0000) =
    some (st 0x00 0x45 0x00 0x00 0x00 0x00 0x00 0x00 0x0000) := by decide

/-- V10. -/
theorem test_add_a_c : after 58 0 (st 0x0F 0x00 0x00 0x01 0x00 0x00 0x00 0x00 0x0000) =
    some (st 0x10 0x10 0x00 0x01 0x00 0x00 0x00 0x00 0x0000) := by decide

/-- V11. -/
theorem test_adc_a_c : after 65 0 (st 0xFF 0x01 0x00 0x00 0x00 0x00 0x00 0x00 0x0000) =
    some (st 0x00 0x51 0x00 0x00 0x00 0x00 0x00 0x00 0x0000) := by decide

/-- V12. -/
theorem test_adc_a_a : after 63 0 (st 0x7F 0x01 0x00 0x00 0x00 0x00 0x00 0x00 0x0000) =
    some (st 0xFF 0xBC 0x00 0x00 0x00 0x00 0x00 0x00 0x0000) := by decide

/-- V13. -/
theorem test_sub_d : after 73 0 (st 0x10 0x00 0x00 0x00 0x01 0x00 0x00 0x00 0x0000) =
    some (st 0x0F 0x1A 0x00 0x00 0x01 0x00 0x00 0x00 0x0000) := by decide

/-- V14. -/
theorem test_sub_a : after 70 0 (st 0x37 0xFF 0x00 0x00 0x00 0x00 0x00 0x00 0x0000) =
    some (st 0x00 0x42 0x00 0x00 0x00 0x00 0x00 0x00 0x0000) := by decide

/-- V15. -/
theorem test_sub_b : after 71 0 (st 0x80 0x00 0x01 0x00 0x00 0x00 0x00 0x00 0x0000) =
    some (st 0x7F 0x3E 0x01 0x00 0x00 0x00 0x00 0x00 0x0000) := by decide

/-- V16. -/
theorem test_sbc_a_e : after 81 0 (st 0x00 0x01 0x00 0x00 0x00 0x00 0x00 0x00 0x0000) =
    some (st 0xFF 0xBB 0x00 0x00 0x00 0x00 0x00 0x00 0x0000) := by decide

/-- V17. -/
theorem test_sbc_a_a : after 77 0 (st 0x42 0x01 0x00 0x00 0x00 0x00 0x00 0x00 0x0000) =
    some (st 0xFF 0xBB 0x00 0x00 0x00 0x00 0x00 0x00 0x0000) := by decide

/-- V18. -/
theorem test_and_h : after 89 0 (st 0xF0 0x00 0x00 0x00 0x00 0x00 0x3C 0x00 0x0000) =
    some (st 0x30 0x34 0x00 0x00 0x00 0x00 0x3C 0x00 0x0000) := by decide

/-- V19. -/
theorem test_and_a : after 84 0 (st 0x00 0xFF 0x00 0x00 0x00 0x00 0x00 0x00 0x0000) =
    some (st 0x00 0x54 0x00 0x00 0x00 0x00 0x00 0x00 0x0000) := by decide

/-- V20. -/
theorem test_xor_a : after 91 0 (st 0x5A 0xFF 0x00 0x00 0x00 0x00 0x00 0x00 0x0000) =
    some (st 0x00 0x44 0x00 0x00 0x00 0x00 0x00 0x00 0x0000) := by decide

/-- V21. -/
theorem test_xor_b : after 92 0 (st 0x0F 0x00 0xF0 0x00 0x00 0x00 0x00 0x00 0x0000) =
    some (st 0xFF 0xAC 0xF0 0x00 0x00 0x00 0x00 0x00 0x0000) := by decide

/-- V22. -/
theorem test_or_l : after 104 0 (st 0x00 0xFF 0x00 0x00 0x00 0x00 0x00 0x00 0x0000) =
    some (st 0x00 0x44 0x00 0x00 0x00 0x00 0x00 0x00 0x0000) := by decide

/-- V23. -/
theorem test_or_a : after 98 0 (st 0x81 0x00 0x00 0x00 0x00 0x00 0x00 0x00 0x0000) =
    some (st 0x81 0x84 0x00 0x00 0x00 0x00 0x00 0x00 0x0000) := by decide

/-- V24. -/
theorem test_cp_b : after 106 0 (st 0x10 0x00 0x28 0x00 0x00 0x00 0x00 0x00 0x0000) =
    some (st 0x10 0xBB 0x28 0x00 0x00 0x00 0x00 0x00 0x0000) := by decide

/-- V25. -/
theorem test_cp_a : after 105 0 (st 0x28 0x01 0x00 0x00 0x00 0x00 0x00 0x00 0x0000) =
    some (st 0x28 0x6A 0x00 0x00 0x00 0x00 0x00 0x00 0x0000) := by decide

/-- V26. -/
theorem test_cp_c : after 107 0 (st 0x80 0x00 0x00 0x01 0x00 0x00 0x00 0x00 0x0000) =
    some (st 0x80 0x16 0x00 0x01 0x00 0x00 0x00 0x00 0x0000) := by decide

/-- V27. -/
theorem test_inc_a : after 118 0 (st 0xFF 0xFF 0x00 0x00 0x00 0x00 0x00 0x00 0x0000) =
    some (st 0x00 0x51 0x00 0x00 0x00 0x00 0x00 0x00 0x0000) := by decide

/-- V28. -/
theorem test_inc_d : after 114 0 (st 0x00 0x01 0x00 0x00 0x7F 0x00 0x00 0x00 0x0000) =
    some (st 0x00 0x95 0x00 0x00 0x80 0x00 0x00 0x00 0x0000) := by decide

/-- V29. -/
theorem test_inc_b : after 112 0 (st 0x00 0x00 0x0F 0x00 0x00 0x00 0x00 0x00 0x0000) =
    some (st 0x00 0x10 0x10 0x00 0x00 0x00 0x00 0x00 0x0000) := by decide

/-- V30. -/
theorem test_dec_e : after 122 0 (st 0x00 0x00 0x00 0x00 0x00 0x80 0x00 0x00 0x0000) =
    some (st 0x00 0x3E 0x00 0x00 0x00 0x7F 0x00 0x00 0x0000) := by decide

/-- V31. -/
theorem test_dec_b : after 119 0 (st 0x00 0x01 0x00 0x00 0x00 0x00 0x00 0x00 0x0000) =
    some (st 0x00 0xBB 0xFF 0x00 0x00 0x00 0x00 0x00 0x0000) := by decide

/-- V32. -/
theorem test_dec_c : after 120 0 (st 0x00 0x00 0x00 0x01 0x00 0x00 0x00 0x00 0x0000) =
    some (st 0x00 0x42 0x00 0x00 0x00 0x00 0x00 0x00 0x0000) := by decide

/-- V33. -/
theorem test_rlca : after 126 0 (st 0x81 0x00 0x00 0x00 0x00 0x00 0x00 0x00 0x0000) =
    some (st 0x03 0x01 0x00 0x00 0x00 0x00 0x00 0x00 0x0000) := by decide

/-- V34. -/
theorem test_rrca : after 127 0 (st 0x01 0xC4 0x00 0x00 0x00 0x00 0x00 0x00 0x0000) =
    some (st 0x80 0xC5 0x00 0x00 0x00 0x00 0x00 0x00 0x0000) := by decide

/-- V35. -/
theorem test_rla : after 128 0 (st 0x80 0x00 0x00 0x00 0x00 0x00 0x00 0x00 0x0000) =
    some (st 0x00 0x01 0x00 0x00 0x00 0x00 0x00 0x00 0x0000) := by decide

/-- V36. -/
theorem test_rra : after 129 0 (st 0x01 0x01 0x00 0x00 0x00 0x00 0x00 0x00 0x0000) =
    some (st 0x80 0x01 0x00 0x00 0x00 0x00 0x00 0x00 0x0000) := by decide

/-- V38. -/
theorem test_daa : after 130 0 (st 0x9A 0x00 0x00 0x00 0x00 0x00 0x00 0x00 0x0000) =
    some (st 0x00 0x55 0x00 0x00 0x00 0x00 0x00 0x00 0x0000) := by decide

/-- V40. -/
theorem test_daa_again : after 130 0 (st 0x00 0x13 0x00 0x00 0x00 0x00 0x00 0x00 0x0000) =
    some (st 0x9A 0x9F 0x00 0x00 0x00 0x00 0x00 0x00 0x0000) := by decide

/-- V41. -/
theorem test_cpl : after 131 0 (st 0x5A 0x00 0x00 0x00 0x00 0x00 0x00 0x00 0x0000) =
    some (st 0xA5 0x32 0x00 0x00 0x00 0x00 0x00 0x00 0x0000) := by decide

/-- V42. -/
theorem test_scf : after 132 0 (st 0x28 0x00 0x00 0x00 0x00 0x00 0x00 0x00 0x0000) =
    some (st 0x28 0x29 0x00 0x00 0x00 0x00 0x00 0x00 0x0000) := by decide

/-- V43. -/
theorem test_ccf : after 133 0 (st 0x00 0x01 0x00 0x00 0x00 0x00 0x00 0x00 0x0000) =
    some (st 0x00 0x10 0x00 0x00 0x00 0x00 0x00 0x00 0x0000) := by decide

/-- V44. -/
theorem test_ccf_again : after 133 0 (st 0xFF 0xC4 0x00 0x00 0x00 0x00 0x00 0x00 0x0000) =
    some (st 0xFF 0xED 0x00 0x00 0x00 0x00 0x00 0x00 0x0000) := by decide

/-- V45. -/
theorem test_neg : after 134 0 (st 0x01 0x00 0x00 0x00 0x00 0x00 0x00 0x00 0x0000) =
    some (st 0xFF 0xBB 0x00 0x00 0x00 0x00 0x00 0x00 0x0000) := by decide

/-- V47. -/
theorem test_neg_again : after 134 0 (st 0x80 0x00 0x00 0x00 0x00 0x00 0x00 0x00 0x0000) =
    some (st 0x80 0x87 0x00 0x00 0x00 0x00 0x00 0x00 0x0000) := by decide

/-- V48. -/
theorem test_nop : after 135 0 (st 0x12 0x28 0x00 0x00 0x00 0x00 0x00 0x00 0x4321) =
    some (st 0x12 0x28 0x00 0x00 0x00 0x00 0x00 0x00 0x4321) := by decide

/-- V49. -/
theorem test_rlc_b : after 136 0 (st 0x00 0x00 0x80 0x00 0x00 0x00 0x00 0x00 0x0000) =
    some (st 0x00 0x01 0x01 0x00 0x00 0x00 0x00 0x00 0x0000) := by decide

/-- V50. -/
theorem test_rlc_b_again : after 136 0 (st 0x00 0xFF 0x00 0x00 0x00 0x00 0x00 0x00 0x0000) =
    some (st 0x00 0x44 0x00 0x00 0x00 0x00 0x00 0x00 0x0000) := by decide

/-- V51. -/
theorem test_rrc_c : after 144 0 (st 0x00 0x00 0x00 0x01 0x00 0x00 0x00 0x00 0x0000) =
    some (st 0x00 0x81 0x00 0x80 0x00 0x00 0x00 0x00 0x0000) := by decide

/-- V52. -/
theorem test_rl_d : after 152 0 (st 0x00 0x00 0x00 0x00 0x80 0x00 0x00 0x00 0x0000) =
    some (st 0x00 0x45 0x00 0x00 0x00 0x00 0x00 0x00 0x0000) := by decide

/-- V53. -/
theorem test_rl_b : after 150 0 (st 0x00 0x01 0x00 0x00 0x00 0x00 0x00 0x00 0x0000) =
    some (st 0x00 0x00 0x01 0x00 0x00 0x00 0x00 0x00 0x0000) := by decide

/-- V54. -/
theorem test_rr_e : after 160 0 (st 0x00 0x01 0x00 0x00 0x00 0x01 0x00 0x00 0x0000) =
    some (st 0x00 0x81 0x00 0x00 0x00 0x80 0x00 0x00 0x0000) := by decide

/-- V55. -/
theorem test_sla_h : after 168 0 (st 0x00 0x00 0x00 0x00 0x00 0x00 0x80 0x00 0x0000) =
    some (st 0x00 0x45 0x00 0x00 0x00 0x00 0x00 0x00 0x0000) := by decide

/-- V56. -/
theorem test_sra_l : after 176 0 (st 0x00 0x00 0x00 0x00 0x00 0x00 0x00 0x81 0x0000) =
    some (st 0x00 0x85 0x00 0x00 0x00 0x00 0x00 0xC0 0x0000) := by decide

/-- V57. -/
theorem test_sra_a : after 177 0 (st 0xFF 0x00 0x00 0x00 0x00 0x00 0x00 0x00 0x0000) =
    some (st 0xFF 0xAD 0x00 0x00 0x00 0x00 0x00 0x00 0x0000) := by decide

/-- V58. -/
theorem test_srl_a : after 184 0 (st 0x01 0x00 0x00 0x00 0x00 0x00 0x00 0x00 0x0000) =
    some (st 0x00 0x45 0x00 0x00 0x00 0x00 0x00 0x00 0x0000) := by decide

/-- V59. -/
theorem test_srl_b : after 178 0 (st 0x00 0x00 0xFF 0x00 0x00 0x00 0x00 0x00 0x0000) =
    some (st 0x00 0x29 0x7F 0x00 0x00 0x00 0x00 0x00 0x0000) := by decide

/-- V60. -/
theorem test_sll_c : after 185 0 (st 0x00 0x00 0x00 0x80 0x00 0x00 0x00 0x00 0x0000) =
    some (st 0x00 0x01 0x00 0x01 0x00 0x00 0x00 0x00 0x0000) := by decide

/-- V61. -/
theorem test_sll_a : after 190 0 (st 0x00 0x00 0x00 0x00 0x00 0x00 0x00 0x00 0x0000) =
    some (st 0x01 0x00 0x00 0x00 0x00 0x00 0x00 0x00 0x0000) := by decide

/-- V62. -/
theorem test_sll_b : after 191 0 (st 0x00 0x00 0xFF 0x00 0x00 0x00 0x00 0x00 0x0000) =
    some (st 0x00 0xAD 0xFF 0x00 0x00 0x00 0x00 0x00 0x0000) := by decide

/-- V63. -/
theorem test_bit_7_h : after 245 0 (st 0x00 0x01 0x00 0x00 0x00 0x00 0x80 0x00 0x0000) =
    some (st 0x00 0x91 0x00 0x00 0x00 0x00 0x80 0x00 0x0000) := by decide

/-- V64. -/
theorem test_bit_0_b : after 192 0 (st 0x00 0x00 0x00 0x00 0x00 0x00 0x00 0x00 0x0000) =
    some (st 0x00 0x54 0x00 0x00 0x00 0x00 0x00 0x00 0x0000) := by decide

/-- V65. -/
theorem test_bit_3_b : after 213 0 (st 0x00 0x00 0x28 0x00 0x00 0x00 0x00 0x00 0x0000) =
    some (st 0x00 0x38 0x28 0x00 0x00 0x00 0x00 0x00 0x0000) := by decide

/-- V66. -/
theorem test_bit_6_a : after 240 0 (st 0x00 0xFE 0x00 0x00 0x00 0x7F 0x00 0x00 0x0000) =
    some (st 0x00 0x54 0x00 0x00 0x00 0x7F 0x00 0x00 0x0000) := by decide

/-- V67. -/
theorem test_res_3_a : after 275 0 (st 0xFF 0x00 0x00 0x00 0x00 0x00 0x00 0x00 0x0000) =
    some (st 0xF7 0x00 0x00 0x00 0x00 0x00 0x00 0x00 0x0000) := by decide

/-- V68. -/
theorem test_res_0_b : after 248 0 (st 0x00 0x55 0x00 0x00 0x00 0x00 0x00 0x00 0x0000) =
    some (st 0x00 0x55 0x00 0x00 0x00 0x00 0x00 0x00 0x0000) := by decide

/-- V69. -/
theorem test_set_7_l : after 358 0 (st 0x00 0xFF 0x00 0x00 0x00 0x00 0x00 0x00 0x0000) =
    some (st 0x00 0xFF 0x00 0x00 0x00 0x00 0x00 0x80 0x0000) := by decide

/-- V70. -/
theorem test_set_0_b : after 304 0 (st 0x00 0x00 0x01 0x00 0x00 0x00 0x00 0x00 0x0000) =
    some (st 0x00 0x00 0x01 0x00 0x00 0x00 0x00 0x00 0x0000) := by decide

/-- V71. -/
theorem test_inc_bc : after 360 0 (st 0x00 0x00 0xFF 0xFF 0x00 0x00 0x00 0x00 0x0000) =
    some (st 0x00 0x00 0x00 0x00 0x00 0x00 0x00 0x00 0x0000) := by decide

/-- V72. -/
theorem test_inc_hl : after 362 0 (st 0x00 0xFF 0x00 0x00 0x00 0x00 0x00 0xFF 0x0000) =
    some (st 0x00 0xFF 0x00 0x00 0x00 0x00 0x01 0x00 0x0000) := by decide

/-- V73. -/
theorem test_dec_sp : after 367 0 (st 0x00 0x00 0x00 0x00 0x00 0x00 0x00 0x00 0x0000) =
    some (st 0x00 0x00 0x00 0x00 0x00 0x00 0x00 0x00 0xFFFF) := by decide

/-- V74. -/
theorem test_dec_hl : after 366 0 (st 0x00 0xAB 0x00 0x00 0x00 0x00 0x00 0x00 0x0000) =
    some (st 0x00 0xAB 0x00 0x00 0x00 0x00 0xFF 0xFF 0x0000) := by decide

/-- V75. -/
theorem test_dec_bc : after 364 0 (st 0x00 0x00 0x01 0x00 0x00 0x00 0x00 0x00 0x0000) =
    some (st 0x00 0x00 0x00 0xFF 0x00 0x00 0x00 0x00 0x0000) := by decide

/-- V76. -/
theorem test_add_hl_de : after 369 0 (st 0x00 0xC4 0x00 0x00 0x00 0x01 0x0F 0xFF 0x0000) =
    some (st 0x00 0xD4 0x00 0x00 0x00 0x01 0x10 0x00 0x0000) := by decide

/-- V77. -/
theorem test_add_hl_hl : after 370 0 (st 0x00 0x00 0x00 0x00 0x00 0x00 0x80 0x00 0x0000) =
    some (st 0x00 0x01 0x00 0x00 0x00 0x00 0x00 0x00 0x0000) := by decide

/-- V78. -/
theorem test_add_hl_sp : after 371 0 (st 0x00 0x00 0x00 0x00 0x00 0x00 0xFF 0xFF 0x0001) =
    some (st 0x00 0x11 0x00 0x00 0x00 0x00 0x00 0x00 0x0001) := by decide

/-- V79. -/
theorem test_add_hl_bc : after 368 0 (st 0x00 0xFF 0x00 0x00 0x00 0x00 0x12 0x34 0x0000) =
    some (st 0x00 0xC4 0x00 0x00 0x00 0x00 0x12 0x34 0x0000) := by decide

/-- V80. -/
theorem test_ex_de_hl : after 372 0 (st 0x00 0x00 0x00 0x00 0x11 0x22 0x33 0x44 0x0000) =
    some (st 0x00 0x00 0x00 0x00 0x33 0x44 0x11 0x22 0x0000) := by decide

/-- V81. -/
theorem test_ld_sp_hl : after 373 0 (st 0x00 0x00 0x00 0x00 0x00 0x00 0xAB 0xCD 0x0000) =
    some (st 0x00 0x00 0x00 0x00 0x00 0x00 0xAB 0xCD 0xABCD) := by decide

/-- V82. -/
theorem test_ld_bc_nn : after 374 0xBEEF (st 0x00 0x00 0x00 0x00 0x00 0x00 0x00 0x00 0x0000) =
    some (st 0x00 0x00 0xBE 0xEF 0x00 0x00 0x00 0x00 0x0000) := by decide

/-- V83. -/
theorem test_ld_de_nn : after 375 0 (st 0x00 0xFF 0x00 0x00 0xFF 0xFF 0x00 0x00 0x0000) =
    some (st 0x00 0xFF 0x00 0x00 0x00 0x00 0x00 0x00 0x0000) := by decide

/-- V84. -/
theorem test_ld_hl_nn : after 376 0x8001 (st 0x00 0x00 0x00 0x00 0x00 0x00 0x00 0x00 0x0000) =
    some (st 0x00 0x00 0x00 0x00 0x00 0x00 0x80 0x01 0x0000) := by decide

/-- V85. -/
theorem test_ld_sp_nn : after 377 0x1234 (st 0x00 0x00 0x00 0x00 0x00 0x00 0x00 0x00 0x0000) =
    some (st 0x00 0x00 0x00 0x00 0x00 0x00 0x00 0x00 0x1234) := by decide

/-- V86. -/
theorem test_adc_hl_bc : after 378 0 (st 0x00 0x01 0x00 0x00 0x00 0x00 0x7F 0xFF 0x0000) =
    some (st 0x00 0x94 0x00 0x00 0x00 0x00 0x80 0x00 0x0000) := by decide

/-- V87. -/
theorem test_adc_hl_hl : after 380 0 (st 0x00 0x00 0x00 0x00 0x00 0x00 0x80 0x00 0x0000) =
    some (st 0x00 0x45 0x00 0x00 0x00 0x00 0x00 0x00 0x0000) := by decide

/-- V88. -/
theorem test_adc_hl_de : after 379 0 (st 0x00 0x00 0x00 0x00 0x00 0x01 0xFF 0xFF 0x0000) =
    some (st 0x00 0x51 0x00 0x00 0x00 0x01 0x00 0x00 0x0000) := by decide

/-- V89. -/
theorem test_adc_hl_sp : after 381 0 (st 0x00 0x00 0x00 0x00 0x00 0x00 0x00 0x00 0x0000) =
    some (st 0x00 0x40 0x00 0x00 0x00 0x00 0x00 0x00 0x0000) := by decide

/-- V90. -/
theorem test_sbc_hl_hl : after 384 0 (st 0x00 0x01 0x00 0x00 0x00 0x00 0x12 0x34 0x0000) =
    some (st 0x00 0xBB 0x00 0x00 0x00 0x00 0xFF 0xFF 0x0000) := by decide

/-- V91. -/
theorem test_sbc_hl_hl_again : after 384 0 (st 0x00 0x00 0x00 0x00 0x00 0x00 0x12 0x34 0x0000) =
    some (st 0x00 0x42 0x00 0x00 0x00 0x00 0x00 0x00 0x0000) := by decide

/-- V92. -/
theorem test_sbc_hl_sp : after 385 0 (st 0x00 0x00 0x00 0x00 0x00 0x00 0x80 0x00 0x0001) =
    some (st 0x00 0x3E 0x00 0x00 0x00 0x00 0x7F 0xFF 0x0001) := by decide

/-- V93. -/
theorem test_sbc_hl_bc : after 382 0 (st 0x00 0x00 0x00 0x01 0x00 0x00 0x00 0x00 0x0000) =
    some (st 0x00 0xBB 0x00 0x01 0x00 0x00 0xFF 0xFF 0x0000) := by decide

/-! ### The exception, the latch and the host operations -/

/-- The start state S1 of 95_test_vectors.md section 5. -/
def s1 : State := st 0x5A 0x00 0x01 0x80 0x7F 0xFF 0x0F 0xF0 0x8000

/-- The start state S1 with the latch set by opcode 386. -/
def latched386 : State := { s1 with fault := ⟨true, 386⟩ }

/-- V94. -/
theorem test_illegal_386_latches : after 386 0x1234 s1 = some latched386 := by decide

/-- V95. -/
theorem test_illegal_65535_latches : after 65535 0 s1 = some { s1 with fault := ⟨true, 65535⟩ } := by decide

/-- V96. -/
theorem test_last_legal_opcode : after 385 0 s1 = some (st 0x5A 0x8F 0x01 0x80 0x7F 0xFF 0x8F 0xF0 0x8000) := by decide

/-- V97. -/
theorem test_latched_block_has_no_step : execute ⟨118, 0⟩ latched386 = .fault .latched := rfl

/-- V97, V98: presenting executes to a latched block changes nothing. -/
theorem test_latched_block_ignores_executes : presentAll latched386 [⟨118, 0⟩, ⟨400, 0⟩] = latched386 := by decide

/-- V99: load_state is performed and leaves the latch. -/
theorem test_load_state_keeps_the_latch :
    loadImage #v[0x99, 0xFF, 0xFE, 0x00, 0x80, 0x01, 0xFF, 0xFF, 0xFF, 0xFF] latched386 =
      { st 0x99 0xFF 0xFE 0x00 0x80 0x01 0xFF 0xFF 0xFFFF with fault := ⟨true, 386⟩, loaded := true } := by decide

/-- V100 (70_reset_and_hazards.md R129): reset clears the latch. -/
theorem test_reset_clears_the_latch : (hostReset latched386).fault.valid = false := by decide

/-- V102. -/
theorem test_inert_policy : after 386 0 { s1 with params := { Params.default with oorPolicy := .inert } } =
    some { s1 with params := { Params.default with oorPolicy := .inert } } := by decide

/-- 20_memory.md R30: SP is stored low byte first. -/
theorem test_image_order : imageOf (st 1 2 3 4 5 6 7 8 0x090A) = #v[1, 2, 3, 4, 5, 6, 7, 8, 0x0A, 0x09] := by decide

theorem test_nothing_presented : step State.reset = .refused .nothingPresented := rfl

/-- The first step after reset runs the presented instruction. -/
theorem test_first_step_after_reset : step (State.reset.withFetchWord 16 118) = exec .incA State.reset := rfl

theorem test_unfinished_run_is_not_final : ¬ Final s1 := by decide

theorem test_proper_run_needs_a_load : properRun [.execute ⟨118, 0⟩] = false := by decide

/-! ### Assembly syntax (30_encoding.md R56) -/

theorem test_number_hexadecimal : numberValue ['0', 'x', '1', 'F'] = some 31 := by decide

theorem test_number_decimal : numberValue ['2', '5', '5'] = some 255 := by decide

theorem test_number_needs_digits : numberValue ['0', 'x'] = none ∧ numberValue [] = none := by decide

theorem test_assembles_ld_a_b : Assembles Params.default "LD A,B" ⟨1, 0⟩ := ⟨.ldAB, rfl, .inl rfl, rfl⟩

theorem test_assembles_sl1_c : Assembles Params.default "SL1 C" ⟨185, 0⟩ :=
  ⟨.sllC, by decide, .inr (by simp [otherSpellings]), by decide⟩

/-! ### Witnesses: every statement with hypotheses has a state and operands that meet them -/

/-- S1 with an INC A presented, then a read. -/
def presented : State := { s1 with inputs := [.execute ⟨118, 0⟩, .readState] }

theorem witness_StepRunsDecodedInstruction : presented.inputs = .execute ⟨118, 0⟩ :: [.readState] ∧
    presented.fault.valid = false ∧ decode presented.params ⟨118, 0⟩ = .instr .incA := by decide

theorem witness_IllegalOpcodeSetsOnlyTheLatch : s1.fault.valid = false ∧ s1.params.oorPolicy = .fault ∧
    386 ≤ (Presented.mk 386 5).opcode.toNat ∧ 386 ≤ (Presented.mk 65535 0).opcode.toNat := by decide

/-- S1 under the policy `inert`. -/
def inertS1 : State := { s1 with params := { Params.default with oorPolicy := .inert } }

theorem witness_InertPolicyChangesNothing : inertS1.fault.valid = false ∧ inertS1.params.oorPolicy = .inert ∧
    386 ≤ (Presented.mk 386 0).opcode.toNat := by decide

theorem witness_SetLatchStopsExecutesUntilReset : latched386.fault.valid = true ∧ HostOp.readFault ≠ .reset ∧
    perform .readFault latched386 = .next (readFault latched386) := ⟨rfl, by decide, rfl⟩

theorem witness_EveryStepKeepsTheInvariant : BlockInv presented ∧ ∃ t, step presented = .next t := ⟨by decide, _, rfl⟩

theorem witness_EveryStepKeepsTheInvariant_latched : BlockInv latched386 := by decide

theorem witness_ExecuteDependsOnBlockStateAlone : SameBlock s1 presented ∧ s1 ≠ presented := by
  unfold SameBlock
  decide

theorem witness_ValidSequencesRunToTheirEnd :
    (∀ x ∈ [Presented.mk 0 0, ⟨118, 0⟩, ⟨385, 7⟩], x.wellFormed = true) ∧
      { s1 with inputs := [.execute ⟨0, 0⟩, .execute ⟨118, 0⟩, .execute ⟨385, 7⟩] }.fault.valid = false ∧
      { s1 with inputs := [.execute ⟨0, 0⟩, .execute ⟨118, 0⟩, .execute ⟨385, 7⟩] }.inputs =
        [Presented.mk 0 0, ⟨118, 0⟩, ⟨385, 7⟩].map .execute := by decide

theorem witness_DecodeInvertsEncode : Instr.sllA.wellFormed Params.default = true ∧
    (Instr.ldAImm 0xFF).wellFormed mapOfB = true := by decide

theorem witness_OpcodesAndInstructionsCorrespond : Params.default.wellFormed = true ∧
    (Presented.mk 385 0).wellFormed = true ∧ decode Params.default ⟨385, 0⟩ = .instr .sbcHlSp ∧
    decode Params.default ⟨385, 9⟩ = .instr .sbcHlSp := by decide

theorem witness_OpcodesFollowTheFormulas : Params.default.wellFormed = true := by decide

theorem witness_OnlyTheImmediateLoadsConsumeTheImmediate_ignoring :
    ([48#16, 56#16, 373#16, 378#16, 65535#16].all fun o =>
      decide (¬ (49 ≤ o.toNat ∧ o.toNat < 56) ∧ ¬ (374 ≤ o.toNat ∧ o.toNat < 378))) = true := by decide

theorem witness_OnlyTheImmediateLoadsConsumeTheImmediate_consuming :
    (49 ≤ (49#16).toNat ∧ (55#16).toNat < 56) ∧ (374 ≤ (374#16).toNat ∧ (377#16).toNat < 378) ∧
      decode Params.default ⟨55, 0x12FF⟩ = .instr (.ldLImm 0xFF) ∧
      decode Params.default ⟨377, 0x12FF⟩ = .instr (.ldSpImm 0x12FF) := by decide

/-- Decimal 19 in A and 27 in B, carry set. -/
def decimalState : State := st 0x19 0x01 0x27 0 0 0 0 0 0

theorem witness_DecimalAdditionByAdjust : decimalState.a = bcd (19 : Fin 100).val ∧
    regValue decimalState .b = bcd (27 : Fin 100).val := by decide

theorem witness_DecimalSubtractionByAdjust : decimalState.a = bcd (19 : Fin 100).val ∧
    regValue decimalState .b = bcd (27 : Fin 100).val := by decide

theorem witness_NineRotatesThroughCarryRestore : Instr.rra = .rla ∨ Instr.rra = .rra := by decide

/-- The opcode lies in one of the ranges of the flagless instructions. -/
def flagless (o : Nat) : Bool := decide (o < 56 ∨ o = 135 ∨ (248 ≤ o ∧ o < 368) ∨ (372 ≤ o ∧ o < 378))

theorem witness_FlaglessInstructionsKeepFlags :
    (flagless 0 && flagless 55 && flagless 135 && flagless 248 && flagless 367 && flagless 372 && flagless 377) = true ∧
      decode s1.params ⟨55, 0⟩ = .instr (.ldLImm 0) ∧ exec (.ldLImm 0) s1 = .next { s1 with l := 0 } :=
  ⟨by decide, by decide, rfl⟩

theorem witness_OnlyNamedInstructionsTouchSp_writer : ¬ ReadsSp .ldSpHl ∧ WritesSp .ldSpHl ∧
    ∃ t, exec .ldSpHl s1 = .next t := ⟨by simp [ReadsSp], by simp [WritesSp], _, rfl⟩

theorem witness_OnlyNamedInstructionsTouchSp_other : ¬ ReadsSp .addHlBc ∧ ¬ WritesSp .addHlBc ∧
    ∃ t, exec .addHlBc s1 = .next t := ⟨by simp [ReadsSp], by simp [WritesSp], _, rfl⟩

theorem witness_UndocumentedFlagsAreNotInputs : (0x28 : Byte) &&& 0xD7 = s1.f &&& 0xD7 ∧ (0x28 : Byte) ≠ s1.f ∧
    ∃ t, exec .daa s1 = .next t := ⟨by decide, by decide, _, rfl⟩

theorem witness_FingerprintLaysOutEightEndImages :
    ∀ x ∈ [Presented.mk 49 5, ⟨118, 0⟩], x.wellFormed = true := by decide

end Sys2Proof.Tests
end

section
/-! What each family's operation is, and that the families are all there is (30_encoding.md R45). The statements over
all instructions are proved from these, by family, and not constructor by constructor. -/

namespace Sys2Proof.Machine

open Sys2Proof.Laws

/-! ### The meaning of an instruction named by its operands -/

@[simp] theorem exec_ldOf (dst src : Reg7) (s : State) : exec (ldOf dst src) s = .next (loadReg dst src s) := by
  cases dst <;> cases src <;> rfl
@[simp] theorem exec_ldImmOf (dst : Reg7) (n : Byte) (s : State) : exec (ldImmOf dst n) s = .next (loadImm dst n s) := by
  cases dst <;> rfl
@[simp] theorem exec_addOf (r : Reg7) (s : State) : exec (addOf r) s = .next (aluAdd r s) := by cases r <;> rfl
@[simp] theorem exec_adcOf (r : Reg7) (s : State) : exec (adcOf r) s = .next (aluAdc r s) := by cases r <;> rfl
@[simp] theorem exec_subOf (r : Reg7) (s : State) : exec (subOf r) s = .next (aluSub r s) := by cases r <;> rfl
@[simp] theorem exec_sbcOf (r : Reg7) (s : State) : exec (sbcOf r) s = .next (aluSbc r s) := by cases r <;> rfl
@[simp] theorem exec_andOf (r : Reg7) (s : State) : exec (andOf r) s = .next (aluAnd r s) := by cases r <;> rfl
@[simp] theorem exec_xorOf (r : Reg7) (s : State) : exec (xorOf r) s = .next (aluXor r s) := by cases r <;> rfl
@[simp] theorem exec_orOf (r : Reg7) (s : State) : exec (orOf r) s = .next (aluOr r s) := by cases r <;> rfl
@[simp] theorem exec_cpOf (r : Reg7) (s : State) : exec (cpOf r) s = .next (aluCp r s) := by cases r <;> rfl
@[simp] theorem exec_incOf (r : Reg7) (s : State) : exec (incOf r) s = .next (incReg r s) := by cases r <;> rfl
@[simp] theorem exec_decOf (r : Reg7) (s : State) : exec (decOf r) s = .next (decReg r s) := by cases r <;> rfl
@[simp] theorem exec_rlcOf (r : Reg7) (s : State) : exec (rlcOf r) s = .next (rotateReg rlcOut r s) := by cases r <;> rfl
@[simp] theorem exec_rrcOf (r : Reg7) (s : State) : exec (rrcOf r) s = .next (rotateReg rrcOut r s) := by cases r <;> rfl
@[simp] theorem exec_rlOf (r : Reg7) (s : State) : exec (rlOf r) s = .next (rotateReg (rlOut (carryIn s)) r s) := by
  cases r <;> rfl
@[simp] theorem exec_rrOf (r : Reg7) (s : State) : exec (rrOf r) s = .next (rotateReg (rrOut (carryIn s)) r s) := by
  cases r <;> rfl
@[simp] theorem exec_slaOf (r : Reg7) (s : State) : exec (slaOf r) s = .next (rotateReg slaOut r s) := by cases r <;> rfl
@[simp] theorem exec_sraOf (r : Reg7) (s : State) : exec (sraOf r) s = .next (rotateReg sraOut r s) := by cases r <;> rfl
@[simp] theorem exec_srlOf (r : Reg7) (s : State) : exec (srlOf r) s = .next (rotateReg srlOut r s) := by cases r <;> rfl
@[simp] theorem exec_sllOf (r : Reg7) (s : State) : exec (sllOf r) s = .next (rotateReg sllOut r s) := by cases r <;> rfl
@[simp] theorem exec_bitOf (b : Fin 8) (r : Reg7) (s : State) : exec (bitOf b r) s = .next (testBitOf b r s) := by
  fin_cases b <;> cases r <;> rfl
@[simp] theorem exec_resOf (b : Fin 8) (r : Reg7) (s : State) : exec (resOf b r) s = .next (resetBitOf b r s) := by
  fin_cases b <;> cases r <;> rfl
@[simp] theorem exec_setOf (b : Fin 8) (r : Reg7) (s : State) : exec (setOf b r) s = .next (setBitOf b r s) := by
  fin_cases b <;> cases r <;> rfl
@[simp] theorem exec_incPairOf (p : Pair) (s : State) : exec (incPairOf p) s = .next (incPair p s) := by cases p <;> rfl
@[simp] theorem exec_decPairOf (p : Pair) (s : State) : exec (decPairOf p) s = .next (decPair p s) := by cases p <;> rfl
@[simp] theorem exec_addHlOf (p : Pair) (s : State) : exec (addHlOf p) s = .next (addHl p s) := by cases p <;> rfl
@[simp] theorem exec_adcHlOf (p : Pair) (s : State) : exec (adcHlOf p) s = .next (adcHl p s) := by cases p <;> rfl
@[simp] theorem exec_sbcHlOf (p : Pair) (s : State) : exec (sbcHlOf p) s = .next (sbcHl p s) := by cases p <;> rfl
@[simp] theorem exec_ldPairImmOf (p : Pair) (nn : Word) (s : State) :
    exec (ldPairImmOf p nn) s = .next (loadPairImm p nn s) := by
  cases p <;> rfl

/-! ### The families -/

/-- The instruction is one of its family and performs the family's operation on its operands. -/
inductive Performs : Instr → (State → State) → Prop where
  | ld (dst src : Reg7) : Performs (ldOf dst src) (loadReg dst src)
  | ldImm (dst : Reg7) (n : Byte) : Performs (ldImmOf dst n) (loadImm dst n)
  | add (r : Reg7) : Performs (addOf r) (aluAdd r)
  | adc (r : Reg7) : Performs (adcOf r) (aluAdc r)
  | sub (r : Reg7) : Performs (subOf r) (aluSub r)
  | sbc (r : Reg7) : Performs (sbcOf r) (aluSbc r)
  | and (r : Reg7) : Performs (andOf r) (aluAnd r)
  | xor (r : Reg7) : Performs (xorOf r) (aluXor r)
  | or (r : Reg7) : Performs (orOf r) (aluOr r)
  | cp (r : Reg7) : Performs (cpOf r) (aluCp r)
  | inc (r : Reg7) : Performs (incOf r) (incReg r)
  | dec (r : Reg7) : Performs (decOf r) (decReg r)
  | rlca : Performs .rlca (rotateA rlcaOut)
  | rrca : Performs .rrca (rotateA rrcaOut)
  | rla : Performs .rla fun s => rotateA (rlaOut (carryIn s)) s
  | rra : Performs .rra fun s => rotateA (rraOut (carryIn s)) s
  | daa : Performs .daa decimalAdjust
  | cpl : Performs .cpl complementA
  | scf : Performs .scf setCarry
  | ccf : Performs .ccf complementCarry
  | neg : Performs .neg negateA
  | nop : Performs .nop noOperation
  | rlc (r : Reg7) : Performs (rlcOf r) (rotateReg rlcOut r)
  | rrc (r : Reg7) : Performs (rrcOf r) (rotateReg rrcOut r)
  | rl (r : Reg7) : Performs (rlOf r) fun s => rotateReg (rlOut (carryIn s)) r s
  | rr (r : Reg7) : Performs (rrOf r) fun s => rotateReg (rrOut (carryIn s)) r s
  | sla (r : Reg7) : Performs (slaOf r) (rotateReg slaOut r)
  | sra (r : Reg7) : Performs (sraOf r) (rotateReg sraOut r)
  | srl (r : Reg7) : Performs (srlOf r) (rotateReg srlOut r)
  | sll (r : Reg7) : Performs (sllOf r) (rotateReg sllOut r)
  | bit (b : Fin 8) (r : Reg7) : Performs (bitOf b r) (testBitOf b r)
  | res (b : Fin 8) (r : Reg7) : Performs (resOf b r) (resetBitOf b r)
  | set (b : Fin 8) (r : Reg7) : Performs (setOf b r) (setBitOf b r)
  | incPair (p : Pair) : Performs (incPairOf p) (incPair p)
  | decPair (p : Pair) : Performs (decPairOf p) (decPair p)
  | addHl (p : Pair) : Performs (addHlOf p) (addHl p)
  | exDeHl : Performs .exDeHl exchangeDeHl
  | ldSpHl : Performs .ldSpHl loadSpHl
  | ldPairImm (p : Pair) (nn : Word) : Performs (ldPairImmOf p nn) (loadPairImm p nn)
  | adcHl (p : Pair) : Performs (adcHlOf p) (adcHl p)
  | sbcHl (p : Pair) : Performs (sbcHlOf p) (sbcHl p)

/-- `Performs` says what `exec` does: every instruction completes with its family's operation. -/
theorem exec_of_performs {i : Instr} {op : State → State} (h : Performs i op) (s : State) : exec i s = .next (op s) := by
  cases h with
  | rlca | rrca | rla | rra | daa | cpl | scf | ccf | neg | nop | exDeHl | ldSpHl => rfl
  | _ => simp

/-! ### Every instruction belongs to a family -/

theorem performs_aluOps (k : Fin 8) (r : Reg7) : ∃ op, Performs (aluOps.get k r) op := by
  match k with
  | 0 => exact ⟨_, .add r⟩
  | 1 => exact ⟨_, .adc r⟩
  | 2 => exact ⟨_, .sub r⟩
  | 3 => exact ⟨_, .sbc r⟩
  | 4 => exact ⟨_, .and r⟩
  | 5 => exact ⟨_, .xor r⟩
  | 6 => exact ⟨_, .or r⟩
  | 7 => exact ⟨_, .cp r⟩

theorem performs_miscOps (k : Fin 10) : ∃ op, Performs (miscOps.get k) op := by
  match k with
  | 0 => exact ⟨_, .rlca⟩
  | 1 => exact ⟨_, .rrca⟩
  | 2 => exact ⟨_, .rla⟩
  | 3 => exact ⟨_, .rra⟩
  | 4 => exact ⟨_, .daa⟩
  | 5 => exact ⟨_, .cpl⟩
  | 6 => exact ⟨_, .scf⟩
  | 7 => exact ⟨_, .ccf⟩
  | 8 => exact ⟨_, .neg⟩
  | 9 => exact ⟨_, .nop⟩

theorem performs_rotOps (k : Fin 7) (r : Reg7) : ∃ op, Performs (rotOps.get k r) op := by
  match k with
  | 0 => exact ⟨_, .rlc r⟩
  | 1 => exact ⟨_, .rrc r⟩
  | 2 => exact ⟨_, .rl r⟩
  | 3 => exact ⟨_, .rr r⟩
  | 4 => exact ⟨_, .sla r⟩
  | 5 => exact ⟨_, .sra r⟩
  | 6 => exact ⟨_, .srl r⟩

theorem performs_bitOps (k : Fin 3) (b : Fin 8) (r : Reg7) : ∃ op, Performs (bitOps.get k b r) op := by
  match k with
  | 0 => exact ⟨_, .bit b r⟩
  | 1 => exact ⟨_, .res b r⟩
  | 2 => exact ⟨_, .set b r⟩

theorem performs_incDecOps (k : Fin 2) (p : Pair) : ∃ op, Performs (incDecOps.get k p) op := by
  match k with
  | 0 => exact ⟨_, .incPair p⟩
  | 1 => exact ⟨_, .decPair p⟩

theorem performs_adcSbcOps (k : Fin 2) (p : Pair) : ∃ op, Performs (adcSbcOps.get k p) op := by
  match k with
  | 0 => exact ⟨_, .adcHl p⟩
  | 1 => exact ⟨_, .sbcHl p⟩

/-- What the dispatcher answers belongs to a family (30_encoding.md R49). -/
theorem performs_of_dispatch {p : Params} {o : Nat} {imm : Word} {i : Instr} (h : dispatch p o imm = some i) :
    ∃ op, Performs i op := by
  obtain hlt | h49 := Nat.lt_or_ge o 49
  · obtain rfl := Option.some.inj ((dispatch_load p imm hlt).symm.trans h)
    exact ⟨_, .ld _ _⟩
  obtain hlt | h56 := Nat.lt_or_ge o 56
  · obtain rfl := Option.some.inj ((dispatch_loadImm p imm h49 hlt).symm.trans h)
    exact ⟨_, .ldImm _ _⟩
  obtain hlt | h112 := Nat.lt_or_ge o 112
  · obtain rfl := Option.some.inj ((dispatch_alu p imm h56 hlt).symm.trans h)
    exact performs_aluOps _ _
  obtain hlt | h119 := Nat.lt_or_ge o 119
  · obtain rfl := Option.some.inj ((dispatch_inc p imm h112 hlt).symm.trans h)
    exact ⟨_, .inc _⟩
  obtain hlt | h126 := Nat.lt_or_ge o 126
  · obtain rfl := Option.some.inj ((dispatch_dec p imm h119 hlt).symm.trans h)
    exact ⟨_, .dec _⟩
  obtain hlt | h136 := Nat.lt_or_ge o 136
  · obtain rfl := Option.some.inj ((dispatch_misc p imm h126 hlt).symm.trans h)
    exact performs_miscOps _
  obtain hlt | h185 := Nat.lt_or_ge o 185
  · obtain rfl := Option.some.inj ((dispatch_rot p imm h136 hlt).symm.trans h)
    exact performs_rotOps _ _
  obtain hlt | h192 := Nat.lt_or_ge o 192
  · obtain rfl := Option.some.inj ((dispatch_sll p imm h185 hlt).symm.trans h)
    exact ⟨_, .sll _⟩
  obtain hlt | h360 := Nat.lt_or_ge o 360
  · obtain rfl := Option.some.inj ((dispatch_bitop p imm h192 hlt).symm.trans h)
    exact performs_bitOps _ _ _
  obtain hlt | h368 := Nat.lt_or_ge o 368
  · obtain rfl := Option.some.inj ((dispatch_incDecPair p imm h360 hlt).symm.trans h)
    exact performs_incDecOps _ _
  obtain hlt | h372 := Nat.lt_or_ge o 372
  · obtain rfl := Option.some.inj ((dispatch_addHl p imm h368 hlt).symm.trans h)
    exact ⟨_, .addHl _⟩
  obtain hlt | h373 := Nat.lt_or_ge o 373
  · obtain rfl := Option.some.inj ((dispatch_exDeHl p imm h372 hlt).symm.trans h)
    exact ⟨_, .exDeHl⟩
  obtain hlt | h374 := Nat.lt_or_ge o 374
  · obtain rfl := Option.some.inj ((dispatch_ldSpHl p imm h373 hlt).symm.trans h)
    exact ⟨_, .ldSpHl⟩
  obtain hlt | h378 := Nat.lt_or_ge o 378
  · obtain rfl := Option.some.inj ((dispatch_loadPairImm p imm h374 hlt).symm.trans h)
    exact ⟨_, .ldPairImm _ _⟩
  obtain hlt | h386 := Nat.lt_or_ge o 386
  · obtain rfl := Option.some.inj ((dispatch_adcSbcHl p imm h378 hlt).symm.trans h)
    exact performs_adcSbcOps _ _
  cases (dispatch_outOfRange p imm h386).symm.trans h

/-- Every instruction belongs to a family: one without an immediate, because the dispatcher takes its own opcode under
the default parameters to it. -/
theorem exists_performs (i : Instr) : ∃ op, Performs i op := by
  have key := performs_of_dispatch (p := Params.default) (o := (encode Params.default i).opcode.toNat) (imm := 0) (i := i)
  cases i with
  | ldAImm n => exact ⟨_, .ldImm .a n⟩
  | ldBImm n => exact ⟨_, .ldImm .b n⟩
  | ldCImm n => exact ⟨_, .ldImm .c n⟩
  | ldDImm n => exact ⟨_, .ldImm .d n⟩
  | ldEImm n => exact ⟨_, .ldImm .e n⟩
  | ldHImm n => exact ⟨_, .ldImm .h n⟩
  | ldLImm n => exact ⟨_, .ldImm .l n⟩
  | ldBcImm nn => exact ⟨_, .ldPairImm .bc nn⟩
  | ldDeImm nn => exact ⟨_, .ldPairImm .de nn⟩
  | ldHlImm nn => exact ⟨_, .ldPairImm .hl nn⟩
  | ldSpImm nn => exact ⟨_, .ldPairImm .sp nn⟩
  | _ => exact key rfl

/-- Everything an instruction that answers a next state can have done. -/
theorem exec_next_cases {i : Instr} {s t : State} (h : exec i s = .next t) : ∃ op, Performs i op ∧ t = op s := by
  obtain ⟨op, hop⟩ := exists_performs i
  rw [exec_of_performs hop s] at h
  cases h
  exact ⟨op, hop, rfl⟩

end Sys2Proof.Machine
end

section
/-! The invariant (10_state.md R23, 60_exceptions.md R114, R116): what holds at reset and is kept by every step. -/

namespace Sys2Proof.Machine

open Sys2Proof.Claims Sys2Proof.Safety

/-! ### What no instruction touches -/

theorem sameControl_setReg8 (r : Reg7) (v : Byte) (s : State) : SameControl s (setReg8 r v s) := by simp [SameControl]

theorem sameControl_setPair (p : Pair) (v : Word) (s : State) : SameControl s (setPair p v s) := by simp [SameControl]

theorem sameControl_setFlags (v : Byte) (s : State) : SameControl s (setFlags v s) := ⟨rfl, rfl, rfl, rfl, rfl⟩

theorem sameControl_putOut8 (r : Reg7) (o : Out8) (s : State) : SameControl s (putOut8 r o s) := by simp [SameControl]

theorem sameControl_putOutHl (o : Out16) (s : State) : SameControl s (putOutHl o s) := ⟨rfl, rfl, rfl, rfl, rfl⟩

/-- A family's operation writes registers alone; the cases are grouped by the write it makes. -/
theorem sameControl_of_performs {i : Instr} {op : State → State} (h : Performs i op) (s : State) :
    SameControl s (op s) := by
  cases h with
  | nop | exDeHl => exact ⟨rfl, rfl, rfl, rfl, rfl⟩
  | ld | ldImm | res | set => exact sameControl_setReg8 _ _ s
  | cp | bit | scf | ccf => exact sameControl_setFlags _ s
  | add | adc | sub | sbc | and | xor | or | inc | dec | rlca | rrca | rla | rra | daa | cpl | neg | rlc | rrc | rl | rr
  | sla | sra | srl | sll => exact sameControl_putOut8 _ _ s
  | incPair | decPair | ldSpHl | ldPairImm => exact sameControl_setPair _ _ s
  | addHl | adcHl | sbcHl => exact sameControl_putOutHl _ s

/-- An instruction leaves the latch, the parameters, the load record and the host's lists alone. -/
theorem sameControl_of_exec {i : Instr} {s t : State} (h : exec i s = .next t) : SameControl s t := by
  obtain ⟨op, hop, rfl⟩ := exec_next_cases h
  exact sameControl_of_performs hop s

/-! ### The out-of-range opcodes -/

/-- The decoder rejects only what lies outside the valid range, with its own value (30_encoding.md R53, R54). -/
theorem outOfRange_of_decode {p : Params} {x : Presented} {o : Word} (h : decode p x = .illegalOpcode o) :
    o = x.opcode ∧ numOpcodes ≤ x.opcode.toNat := by
  obtain hlt | hge := Nat.lt_or_ge x.opcode.toNat 386
  · obtain ⟨i, hi⟩ := Laws.dispatch_inRange p x.imm hlt
    rw [Laws.decode_of_dispatch hi] at h
    cases h
  · rw [Laws.decode_of_dispatch_none (Laws.dispatch_outOfRange p x.imm hge)] at h
    cases h
    exact ⟨rfl, hge⟩

/-! ### The invariant -/

/-- A clear latch is sound. -/
theorem latchSound_of_live {s : State} (h : Live s) : LatchSound s := fun hv => by simp [h] at hv

/-- The invariant reads the latch and the parameters alone. -/
theorem blockInv_of_eq {s t : State} (hf : t.fault = s.fault) (hp : t.params = s.params) (h : BlockInv s) :
    BlockInv t := by
  simpa only [BlockInv, LatchSound, hf, hp] using h

theorem blockInv_hostReset {s : State} (h : BlockInv s) : BlockInv (hostReset s) :=
  ⟨h.1, latchSound_of_live rfl⟩

/-- An out-of-range opcode sets the latch under the policy `fault` alone. -/
theorem blockInv_outOfRange {s : State} {o : Word} (ho : numOpcodes ≤ o.toNat) (h : BlockInv s) :
    BlockInv (outOfRange o s) := by
  unfold outOfRange
  split
  case h_1 hpol => exact ⟨h.1, fun _ => ⟨hpol, ho⟩⟩
  case h_2 => exact h

theorem blockInv_execute {x : Presented} {s t : State} (h : BlockInv s) (he : execute x s = .next t) : BlockInv t := by
  obtain ⟨-, ⟨i, -, hi⟩ | ⟨o, ho, rfl⟩⟩ := execute_next_cases he
  · obtain ⟨hf, hp, -⟩ := sameControl_of_exec hi
    exact blockInv_of_eq hf hp h
  · obtain ⟨rfl, hge⟩ := outOfRange_of_decode ho
    exact blockInv_outOfRange hge h

theorem blockInv_perform {op : HostOp} {s t : State} (h : BlockInv s) (hp : perform op s = .next t) : BlockInv t := by
  obtain ⟨-, rfl⟩ | ⟨m, -, rfl⟩ | ⟨x, -, he⟩ | ⟨-, rfl⟩ | ⟨-, rfl⟩ := perform_next_cases hp
  · exact blockInv_hostReset h
  · exact blockInv_of_eq (loadImage_fault m s) (loadImage_params m s) h
  · exact blockInv_execute h he
  · exact blockInv_of_eq (reply_fault _ s) (reply_params _ s) h
  · exact blockInv_of_eq (reply_fault _ s) (reply_params _ s) h

/-- Settles O8: the default map names every register, and the latch is clear. -/
theorem invariantHoldsAtReset : Obligations.InvariantHoldsAtReset := by
  unfold Obligations.InvariantHoldsAtReset
  exact ⟨by decide, latchSound_of_live rfl⟩

/-- Settles O9: a step takes one operation off the host's list, which the invariant does not read, and performs it. -/
theorem everyStepKeepsTheInvariant : Obligations.EveryStepKeepsTheInvariant := by
  unfold Obligations.EveryStepKeepsTheInvariant
  intro s t h hstep
  obtain ⟨op, rest, -, hp⟩ := step_next_cases hstep
  have htaken : BlockInv { s with inputs := rest } := blockInv_of_eq rfl rfl h
  exact blockInv_perform htaken hp

end Sys2Proof.Machine
end

section
/-! Register pairs (10_state.md R15): the model's shifts and fields are the statements' arithmetic. -/

namespace Sys2Proof.Machine

open Sys2Proof.Claims

theorem joinBytes_eq_ofNat (hi lo : Byte) : joinBytes hi lo = BitVec.ofNat 16 (256 * hi.toNat + lo.toNat) := by
  have hadd : joinBytes hi lo = (hi.setWidth 16 <<< 8) + lo.setWidth 16 := by
    unfold joinBytes
    refine (BitVec.add_eq_or_of_and_eq_zero _ _ ?_).symm
    apply BitVec.eq_of_getLsbD_eq
    intro i _
    by_cases h : i < 8
    · simp [h]
    · simp [h, BitVec.getLsbD_of_ge lo i (by omega)]
  rw [hadd]
  bv_omega

theorem highByte_eq_hi8 (v : Word) : highByte v = hi8 v := by
  simp [highByte, hi8, BitVec.extractLsb', Nat.shiftRight_eq_div_pow]

theorem lowByte_eq_lo8 (v : Word) : lowByte v = lo8 v := by
  simp [lowByte, lo8, BitVec.extractLsb']

/-- Reading a pair. -/
theorem pair_eq_pairValue (p : Pair) (s : State) : pair p s = pairValue s p := by
  cases p with
  | bc | de | hl => exact joinBytes_eq_ofNat _ _
  | sp => rfl

/-- Writing a pair. -/
theorem setPair_eq_withPair (p : Pair) (v : Word) (s : State) : setPair p v s = withPair s p v := by
  cases p <;> simp [setPair, withPair, highByte_eq_hi8, lowByte_eq_lo8]

/-- Settles O21: the halves of BC, DE and HL are their registers, so a register write is a write to one half. -/
theorem pairsAreTheirTwoRegisters : Obligations.PairsAreTheirTwoRegisters := by
  unfold Obligations.PairsAreTheirTwoRegisters
  intro s p v w
  refine ⟨pair_eq_pairValue p s, setPair_eq_withPair p v s, pair_setPair_self p v s, ?_⟩
  simp [pair, setReg8]

end Sys2Proof.Machine
end

section
/-! Flags as inputs and outputs (10_state.md R16, R17). -/

namespace Sys2Proof.Machine

open Sys2Proof.Laws Sys2Proof.Claims

/-! ### Writing `F` before another write -/

@[simp] theorem setFlags_setFlags (v g : Byte) (s : State) : setFlags v (setFlags g s) = setFlags v s := rfl

@[simp] theorem setReg8_setFlags (r : Reg7) (v g : Byte) (s : State) :
    setReg8 r v (setFlags g s) = setFlags g (setReg8 r v s) := by
  cases r <;> rfl

@[simp] theorem setPair_setFlags (p : Pair) (v : Word) (g : Byte) (s : State) :
    setPair p v (setFlags g s) = setFlags g (setPair p v s) := by
  cases p <;> rfl

@[simp] theorem putOut8_setFlags (r : Reg7) (o : Out8) (g : Byte) (s : State) :
    putOut8 r o (setFlags g s) = putOut8 r o s := by
  simp [putOut8]

@[simp] theorem putOutHl_setFlags (o : Out16) (g : Byte) (s : State) : putOutHl o (setFlags g s) = putOutHl o s := rfl

/-! ### The instructions that do not write `F` -/

/-- The operation neither reads nor writes `F`. -/
def FlagFree (op : State → State) : Prop := ∀ g, Function.Commute op (setFlags g)

/-- An operation that does not touch `F` keeps it. -/
theorem FlagFree.f_eq {op : State → State} (h : FlagFree op) (s : State) : (op s).f = s.f :=
  calc (op s).f = (setFlags s.f (op s)).f := congrArg State.f (h s.f s)
    _ = s.f := rfl

theorem flagFree_loadReg (dst src : Reg7) : FlagFree (loadReg dst src) := fun _ _ => by simp [loadReg]
theorem flagFree_loadImm (dst : Reg7) (n : Byte) : FlagFree (loadImm dst n) := fun _ _ => by simp [loadImm]
theorem flagFree_noOperation : FlagFree noOperation := fun _ _ => rfl
theorem flagFree_resetBitOf (b : Fin 8) (r : Reg7) : FlagFree (resetBitOf b r) := fun _ _ => by simp [resetBitOf]
theorem flagFree_setBitOf (b : Fin 8) (r : Reg7) : FlagFree (setBitOf b r) := fun _ _ => by simp [setBitOf]
theorem flagFree_incPair (p : Pair) : FlagFree (incPair p) := fun _ _ => by simp [incPair]
theorem flagFree_decPair (p : Pair) : FlagFree (decPair p) := fun _ _ => by simp [decPair]
theorem flagFree_exchangeDeHl : FlagFree exchangeDeHl := fun _ _ => rfl
theorem flagFree_loadSpHl : FlagFree loadSpHl := fun _ _ => rfl
theorem flagFree_loadPairImm (p : Pair) (nn : Word) : FlagFree (loadPairImm p nn) := fun _ _ => by simp [loadPairImm]

/-- The dispatcher behind a decoded instruction. -/
theorem dispatch_of_decode {p : Params} {x : Presented} {i : Instr} (h : decode p x = .instr i) :
    dispatch p x.opcode.toNat x.imm = some i := by
  cases hd : dispatch p x.opcode.toNat x.imm with
  | some j => rw [decode_of_dispatch hd] at h; cases h; rfl
  | none => rw [decode_of_dispatch_none hd] at h; cases h

/-- The instruction is one whose operation does not touch `F`. -/
def KeepsFlags (i : Instr) : Prop := ∃ op, Performs i op ∧ FlagFree op

theorem KeepsFlags.f_eq {i : Instr} {s t : State} (h : KeepsFlags i) (he : exec i s = .next t) : t.f = s.f := by
  obtain ⟨op, hop, hfree⟩ := h
  cases (exec_of_performs hop s).symm.trans he
  exact hfree.f_eq s

/-- Family 9 past the 56 BIT opcodes. -/
theorem keepsFlags_bitopAt {k : Nat} (h1 : 56 ≤ k) (h2 : k < 168) : KeepsFlags (bitopAt k) := by
  have hop : k / 56 = 1 ∨ k / 56 = 2 := by omega
  unfold bitopAt
  obtain hres | hset := hop
  · rw [hres]
    exact ⟨_, .res _ _, flagFree_resetBitOf _ _⟩
  · rw [hset]
    exact ⟨_, .set _ _, flagFree_setBitOf _ _⟩

theorem keepsFlags_incDecOps (k : Fin 2) (p : Pair) : KeepsFlags (incDecOps.get k p) := by
  match k with
  | 0 => exact ⟨_, .incPair p, flagFree_incPair p⟩
  | 1 => exact ⟨_, .decPair p, flagFree_decPair p⟩

theorem keepsFlags_of_dispatch {p : Params} {o : Nat} {imm : Word} {i : Instr} (h : dispatch p o imm = some i)
    (ho : o < 56 ∨ o = 135 ∨ (248 ≤ o ∧ o < 368) ∨ (372 ≤ o ∧ o < 378)) : KeepsFlags i := by
  have ranges : o < 49 ∨ (49 ≤ o ∧ o < 56) ∨ o = 135 ∨ (248 ≤ o ∧ o < 360) ∨ (360 ≤ o ∧ o < 368) ∨ o = 372 ∨ o = 373 ∨
      (374 ≤ o ∧ o < 378) := by
    omega
  obtain hlt | ⟨hge, hlt⟩ | rfl | ⟨hge, hlt⟩ | ⟨hge, hlt⟩ | rfl | rfl | ⟨hge, hlt⟩ := ranges
  · obtain rfl := Option.some.inj ((dispatch_load p imm hlt).symm.trans h)
    exact ⟨_, .ld _ _, flagFree_loadReg _ _⟩
  · obtain rfl := Option.some.inj ((dispatch_loadImm p imm hge hlt).symm.trans h)
    exact ⟨_, .ldImm _ _, flagFree_loadImm _ _⟩
  · obtain rfl := Option.some.inj h
    exact ⟨_, .nop, flagFree_noOperation⟩
  · obtain rfl := Option.some.inj ((dispatch_bitop p imm (by omega) hlt).symm.trans h)
    exact keepsFlags_bitopAt (by omega) (by omega)
  · obtain rfl := Option.some.inj ((dispatch_incDecPair p imm hge hlt).symm.trans h)
    exact keepsFlags_incDecOps _ _
  · obtain rfl := Option.some.inj h
    exact ⟨_, .exDeHl, flagFree_exchangeDeHl⟩
  · obtain rfl := Option.some.inj h
    exact ⟨_, .ldSpHl, flagFree_loadSpHl⟩
  · obtain rfl := Option.some.inj ((dispatch_loadPairImm p imm hge hlt).symm.trans h)
    exact ⟨_, .ldPairImm _ _, flagFree_loadPairImm _ _⟩

/-- Settles O54: each range of opcodes dispatches to operations whose register write leaves `F` alone. -/
theorem flaglessInstructionsKeepFlags : Obligations.FlaglessInstructionsKeepFlags := by
  unfold Obligations.FlaglessInstructionsKeepFlags
  intro x i s t hx hd he
  exact (keepsFlags_of_dispatch (dispatch_of_decode hd) hx).f_eq he

/-! ### Bits 5 and 3 as inputs -/

section Documented

variable {f g : Byte} (h : g &&& 0xD7 = f &&& 0xD7)
include h

/-- Flag bytes that agree outside bits 5 and 3 agree under every mask of the other bits. -/
theorem and_eq_of_documented {m : Byte} (hm : 0xD7 &&& m = m) : g &&& m = f &&& m := by
  rw [← hm, ← BitVec.and_assoc, h, BitVec.and_assoc]

theorem inc8_eq_of_documented (v : Byte) : inc8 g v = inc8 f v := by
  simp [inc8, and_eq_of_documented h (m := flagC) rfl]

theorem dec8_eq_of_documented (v : Byte) : dec8 g v = dec8 f v := by
  simp [dec8, and_eq_of_documented h (m := flagC) rfl]

theorem rotateAFlags_eq_of_documented (v : Byte) (out : BitVec 1) : rotateAFlags g v out = rotateAFlags f v out := by
  simp [rotateAFlags, and_eq_of_documented h (m := keepSZP) rfl]

theorem daa8_eq_of_documented (a : Byte) : daa8 a g = daa8 a f := by
  simp [daa8, daaAdjust, and_eq_of_documented h (m := flagC) rfl, and_eq_of_documented h (m := flagH) rfl,
    and_eq_of_documented h (m := flagN) rfl]

theorem cplFlags_eq_of_documented (v : Byte) : cplFlags g v = cplFlags f v := by
  simp [cplFlags, and_eq_of_documented h (m := flagC ||| flagPV ||| flagZ ||| flagS) rfl]

theorem scfFlags_eq_of_documented (a : Byte) : scfFlags g a = scfFlags f a := by
  simp [scfFlags, and_eq_of_documented h (m := keepSZP) rfl]

theorem ccfFlags_eq_of_documented (a : Byte) : ccfFlags g a = ccfFlags f a := by
  simp [ccfFlags, and_eq_of_documented h (m := keepSZP) rfl, and_eq_of_documented h (m := flagC) rfl]

theorem bitFlags_eq_of_documented (v : Byte) (b : Fin 8) : bitFlags g v b = bitFlags f v b := by
  simp [bitFlags, and_eq_of_documented h (m := flagC) rfl]

theorem add16_eq_of_documented (a b : Word) : add16 g a b = add16 f a b := by
  simp [add16, and_eq_of_documented h (m := flagS ||| flagZ ||| flagPV) rfl]

end Documented

/-- The incoming carry is bit 0. -/
theorem carryIn_setFlags_of_documented {g : Byte} {s : State} (h : g &&& 0xD7 = s.f &&& 0xD7) :
    carryIn (setFlags g s) = carryIn s := by
  have hbit (v : Byte) : v.extractLsb' 0 1 = (v &&& flagC).extractLsb' 0 1 := by
    apply BitVec.eq_of_getLsbD_eq
    intro i hi
    obtain rfl : i = 0 := by omega
    simp [flagC]
  rw [carryIn, carryIn, setFlags_f, hbit, and_eq_of_documented h rfl, ← hbit]

/-- The operation overwrites `F`, and of the old `F` reads no bit but the documented six. -/
def ReadsDocumentedFlags (op : State → State) : Prop :=
  ∀ s g, g &&& 0xD7 = s.f &&& 0xD7 → op (setFlags g s) = op s

theorem flagFree_or_readsDocumentedFlags {i : Instr} {op : State → State} (h : Performs i op) :
    FlagFree op ∨ ReadsDocumentedFlags op := by
  cases h with
  | ld dst src => exact .inl (flagFree_loadReg dst src)
  | ldImm dst n => exact .inl (flagFree_loadImm dst n)
  | nop => exact .inl flagFree_noOperation
  | res b r => exact .inl (flagFree_resetBitOf b r)
  | set b r => exact .inl (flagFree_setBitOf b r)
  | incPair p => exact .inl (flagFree_incPair p)
  | decPair p => exact .inl (flagFree_decPair p)
  | exDeHl => exact .inl flagFree_exchangeDeHl
  | ldSpHl => exact .inl flagFree_loadSpHl
  | ldPairImm p nn => exact .inl (flagFree_loadPairImm p nn)
  | add | sub | neg => exact .inr fun _ _ _ => by simp [aluAdd, aluSub, negateA]
  | and | xor | or | cp => exact .inr fun _ _ _ => by simp [aluAnd, aluXor, aluOr, aluCp]
  | rlc | rrc | sla | sra | srl | sll => exact .inr fun _ _ _ => by simp [rotateReg]
  | adc | sbc => exact .inr fun _ _ hg => by simp [aluAdc, aluSbc, carryIn_setFlags_of_documented hg]
  | rl | rr => exact .inr fun _ _ hg => by simp [rotateReg, carryIn_setFlags_of_documented hg]
  | adcHl | sbcHl => exact .inr fun _ _ hg => by simp [adcHl, sbcHl, carryIn_setFlags_of_documented hg]
  | inc | dec =>
    exact .inr fun _ _ hg => by simp [incReg, decReg, inc8_eq_of_documented hg, dec8_eq_of_documented hg]
  | rlca | rrca | rla | rra =>
    exact .inr fun _ _ hg => by
      simp [rotateA, rotateAFlags_eq_of_documented hg, carryIn_setFlags_of_documented hg]
  | daa => exact .inr fun _ _ hg => by simp [decimalAdjust, daa8_eq_of_documented hg]
  | cpl => exact .inr fun _ _ hg => by simp [complementA, cplFlags_eq_of_documented hg]
  | scf | ccf =>
    exact .inr fun _ _ hg => by
      simp [setCarry, complementCarry, scfFlags_eq_of_documented hg, ccfFlags_eq_of_documented hg]
  | bit => exact .inr fun _ _ hg => by simp [testBitOf, bitFlags_eq_of_documented hg]
  | addHl => exact .inr fun _ _ hg => by simp [addHl, add16_eq_of_documented hg]

/-- Settles O56: an operation either does not touch `F` at all, or overwrites it from the six documented flags. -/
theorem undocumentedFlagsAreNotInputs : Obligations.UndocumentedFlagsAreNotInputs := by
  unfold Obligations.UndocumentedFlagsAreNotInputs
  intro i s t g hg hexec
  obtain ⟨op, hop, rfl⟩ := exec_next_cases hexec
  obtain hfree | hdoc := flagFree_or_readsDocumentedFlags hop
  · exact .inr ⟨hfree.f_eq s, (exec_of_performs hop _).trans (congrArg _ (hfree g s))⟩
  · exact .inl ((exec_of_performs hop _).trans (congrArg _ (hdoc s g hg)))

end Sys2Proof.Machine
end

section
/-! `SP` as input and output (10_state.md R20). -/

namespace Sys2Proof.Machine

open Sys2Proof.Claims

/-! ### Writing `SP` before another write -/

@[simp] theorem reg8_setPair_sp (r : Reg7) (v : Word) (s : State) : reg8 r (setPair .sp v s) = reg8 r s := by
  cases r <;> rfl

@[simp] theorem carryIn_setPair (p : Pair) (v : Word) (s : State) : carryIn (setPair p v s) = carryIn s := by
  simp [carryIn]

@[simp] theorem setReg8_setPair_sp (r : Reg7) (x : Byte) (v : Word) (s : State) :
    setReg8 r x (setPair .sp v s) = setPair .sp v (setReg8 r x s) := by
  cases r <;> rfl

@[simp] theorem putOut8_setPair_sp (r : Reg7) (o : Out8) (v : Word) (s : State) :
    putOut8 r o (setPair .sp v s) = setPair .sp v (putOut8 r o s) := by
  simp [putOut8]

/-- The operation neither reads nor writes `SP`. -/
def SpFree (op : State → State) : Prop := ∀ v, Function.Commute op (setPair .sp v)

/-- An operation that does not touch `SP` keeps it. -/
theorem SpFree.sp_eq {op : State → State} (h : SpFree op) (s : State) : (op s).sp = s.sp :=
  calc (op s).sp = (setPair .sp s.sp (op s)).sp := congrArg State.sp (h s.sp s)
    _ = s.sp := rfl

theorem spFree_of_performs {i : Instr} {op : State → State} (h : Performs i op) (hr : ¬ ReadsSp i) (hw : ¬ WritesSp i) :
    SpFree op := by
  cases h with
  | nop | exDeHl => exact fun _ _ => rfl
  | ld | ldImm => exact fun _ _ => by simp [loadReg, loadImm]
  | res | set => exact fun _ _ => by simp [resetBitOf, setBitOf]
  | cp | bit | scf | ccf => exact fun _ _ => by simp [aluCp, testBitOf, setCarry, complementCarry]
  | add | adc | sub | sbc => exact fun _ _ => by simp [aluAdd, aluAdc, aluSub, aluSbc]
  | and | xor | or | neg => exact fun _ _ => by simp [aluAnd, aluXor, aluOr, negateA]
  | inc | dec | daa | cpl => exact fun _ _ => by simp [incReg, decReg, decimalAdjust, complementA]
  | rlca | rrca | rla | rra => exact fun _ _ => by simp [rotateA]
  | rlc | rrc | rl | rr | sla | sra | srl | sll => exact fun _ _ => by simp [rotateReg]
  | ldSpHl => simp [WritesSp] at hw
  | incPair p | decPair p | addHl p | adcHl p | sbcHl p =>
    cases p with
    | sp => simp [ReadsSp, incPairOf, decPairOf, addHlOf, adcHlOf, sbcHlOf] at hr
    | bc | de | hl => exact fun _ _ => rfl
  | ldPairImm p nn =>
    cases p with
    | sp => simp [WritesSp, ldPairImmOf] at hw
    | bc | de | hl => exact fun _ _ => rfl

/-- The instructions that read `SP` and do not write it keep it. -/
theorem sp_of_readsSp {i : Instr} {s t : State} (hr : ReadsSp i) (hw : ¬ WritesSp i) (h : exec i s = .next t) :
    t.sp = s.sp := by
  obtain rfl | rfl | rfl | rfl | rfl := hr
  · cases h; rfl
  · cases h; rfl
  · cases h; rfl
  · simp [WritesSp] at hw
  · simp [WritesSp] at hw

/-- The instructions that write `SP` without reading it overwrite it. -/
theorem exec_of_writesSp {i : Instr} (hr : ¬ ReadsSp i) (hw : WritesSp i) (s : State) (v : Word) :
    exec i { s with sp := v } = exec i s := by
  obtain rfl | rfl | rfl | ⟨nn, rfl⟩ := hw
  · simp [ReadsSp] at hr
  · simp [ReadsSp] at hr
  · rfl
  · rfl

/-- Settles O55: outside the named instructions an operation does not touch `SP`; each named one is looked at. -/
theorem onlyNamedInstructionsTouchSp : Obligations.OnlyNamedInstructionsTouchSp := by
  unfold Obligations.OnlyNamedInstructionsTouchSp
  intro i s t v hexec
  refine ⟨fun hw => ?_, fun hr hw => (exec_of_writesSp hr hw s v).trans hexec, fun hr hw => ?_⟩
  · by_cases hr : ReadsSp i
    · exact sp_of_readsSp hr hw hexec
    · obtain ⟨op, hop, rfl⟩ := exec_next_cases hexec
      exact (spFree_of_performs hop hr hw).sp_eq s
  · obtain ⟨op, hop, rfl⟩ := exec_next_cases hexec
    exact (exec_of_performs hop _).trans (congrArg _ (spFree_of_performs hop hr hw v s))

end Sys2Proof.Machine
end

section
/-! Encoding (30_encoding.md): the opcode of every instruction by the formulas of R48, the table of R45 as a relation
between opcodes and instructions, and that the dispatcher and the encoder both follow it. -/

namespace Sys2Proof.Machine

open Sys2Proof.Laws Sys2Proof.Claims

/-! ### Positions in the operand orderings (R46) -/

theorem idxA_lt (r : Reg7) : idxA r < 7 := by cases r <;> decide
theorem idxR_lt (r : Reg7) : idxR r < 7 := by cases r <;> decide
theorem idxP_lt (q : Pair) : idxP q < 4 := by cases q <;> decide

@[simp] theorem idxA_ordA (k : Fin 7) : idxA (ordA.get k) = k.val := by fin_cases k <;> rfl
@[simp] theorem idxR_ordR (k : Fin 7) : idxR (ordR.get k) = k.val := by fin_cases k <;> rfl
@[simp] theorem idxP_ordP (k : Fin 4) : idxP (ordP.get k) = k.val := by fin_cases k <;> rfl

/-! ### `SLL_REG_MAP` (R47) -/

theorem contains_sllRegMap {p : Params} (hp : p.wellFormed = true) (r : Reg7) :
    p.sllRegMap.toList.contains r = true :=
  List.all_eq_true.mp hp r (by cases r <;> decide)

/-- A map of seven positions that names all seven registers names none twice. -/
theorem sllRegMap_nodup {p : Params} (hp : p.wellFormed = true) : p.sllRegMap.toList.Nodup := by
  have hall : [Reg7.a, .b, .c, .d, .e, .h, .l] ⊆ p.sllRegMap.toList :=
    fun r _ => List.contains_iff_mem.mp (contains_sllRegMap hp r)
  have hsub := List.subperm_of_subset (by decide) hall
  exact (hsub.perm_of_length_le (by simp)).nodup_iff.mp (by decide)

theorem sllPosition_get {p : Params} (hp : p.wellFormed = true) (k : Fin 7) :
    sllPosition p (p.sllRegMap.get k) = k.val :=
  (sllRegMap_nodup hp).idxOf_getElem k.val (by simp)

/-- Well-formed parameters give every instruction an opcode (R41). -/
theorem wellFormed_of_params {p : Params} (hp : p.wellFormed = true) (i : Instr) : i.wellFormed p = true := by
  unfold Instr.wellFormed
  split
  · exact contains_sllRegMap hp _
  · rfl

/-! ### The encoder by family (R48) -/

theorem encode_ldOf (p : Params) (dst src : Reg7) :
    encode p (ldOf dst src) = ⟨BitVec.ofNat 16 (7 * idxA dst + idxA src), 0⟩ := by
  cases dst <;> cases src <;> rfl
theorem encode_ldImmOf (p : Params) (dst : Reg7) (n : Byte) :
    encode p (ldImmOf dst n) = ⟨BitVec.ofNat 16 (49 + idxA dst), n.setWidth 16⟩ := by
  cases dst <;> rfl
theorem encode_aluOps (p : Params) (k : Fin 8) (s : Reg7) :
    encode p (aluOps.get k s) = ⟨BitVec.ofNat 16 (56 + 7 * k.val + idxA s), 0⟩ := by
  fin_cases k <;> cases s <;> rfl
theorem encode_incOf (p : Params) (r : Reg7) : encode p (incOf r) = ⟨BitVec.ofNat 16 (112 + idxR r), 0⟩ := by
  cases r <;> rfl
theorem encode_decOf (p : Params) (r : Reg7) : encode p (decOf r) = ⟨BitVec.ofNat 16 (119 + idxR r), 0⟩ := by
  cases r <;> rfl
theorem encode_miscOps (p : Params) (k : Fin 10) :
    encode p (miscOps.get k) = ⟨BitVec.ofNat 16 (126 + k.val), 0⟩ := by
  fin_cases k <;> rfl
theorem encode_rotOps (p : Params) (k : Fin 7) (r : Reg7) :
    encode p (rotOps.get k r) = ⟨BitVec.ofNat 16 (136 + 7 * k.val + idxR r), 0⟩ := by
  fin_cases k <;> cases r <;> rfl
theorem encode_sllOf (p : Params) (r : Reg7) : encode p (sllOf r) = ⟨BitVec.ofNat 16 (185 + sllPosition p r), 0⟩ := by
  cases r <;> rfl
theorem encode_bitOps (p : Params) (k : Fin 3) (b : Fin 8) (r : Reg7) :
    encode p (bitOps.get k b r) = ⟨BitVec.ofNat 16 (192 + 56 * k.val + 7 * b.val + idxR r), 0⟩ := by
  fin_cases k <;> fin_cases b <;> cases r <;> rfl
theorem encode_incDecOps (p : Params) (k : Fin 2) (q : Pair) :
    encode p (incDecOps.get k q) = ⟨BitVec.ofNat 16 (360 + 4 * k.val + idxP q), 0⟩ := by
  fin_cases k <;> cases q <;> rfl
theorem encode_addHlOf (p : Params) (q : Pair) : encode p (addHlOf q) = ⟨BitVec.ofNat 16 (368 + idxP q), 0⟩ := by
  cases q <;> rfl
theorem encode_ldPairImmOf (p : Params) (q : Pair) (nn : Word) :
    encode p (ldPairImmOf q nn) = ⟨BitVec.ofNat 16 (374 + idxP q), nn⟩ := by
  cases q <;> rfl
theorem encode_adcSbcOps (p : Params) (k : Fin 2) (q : Pair) :
    encode p (adcSbcOps.get k q) = ⟨BitVec.ofNat 16 (378 + 4 * k.val + idxP q), 0⟩ := by
  fin_cases k <;> cases q <;> rfl

theorem encode_sllRegMap {p : Params} (hp : p.wellFormed = true) (k : Fin 7) :
    encode p (sllOf (p.sllRegMap.get k)) = ⟨BitVec.ofNat 16 (185 + k.val), 0⟩ := by
  rw [encode_sllOf, sllPosition_get hp]

/-! ### The opcode table (R45, R48) -/

/-- The table of R45 with R48's formulas: the pair of opcode `o` and immediate `imm` is the instruction `i`. One
constructor for each family. -/
inductive OpcodeRow (p : Params) (imm : Word) : Nat → Instr → Prop where
  | ld (dst src : Reg7) : OpcodeRow p imm (7 * idxA dst + idxA src) (ldOf dst src)
  | ldImm (dst : Reg7) : OpcodeRow p imm (49 + idxA dst) (ldImmOf dst (immByte imm))
  | alu (k : Fin 8) (s : Reg7) : OpcodeRow p imm (56 + 7 * k.val + idxA s) (aluOps.get k s)
  | inc (r : Reg7) : OpcodeRow p imm (112 + idxR r) (incOf r)
  | dec (r : Reg7) : OpcodeRow p imm (119 + idxR r) (decOf r)
  | misc (k : Fin 10) : OpcodeRow p imm (126 + k.val) (miscOps.get k)
  | rot (k : Fin 7) (r : Reg7) : OpcodeRow p imm (136 + 7 * k.val + idxR r) (rotOps.get k r)
  | sll (k : Fin 7) : OpcodeRow p imm (185 + k.val) (sllOf (p.sllRegMap.get k))
  | bitop (k : Fin 3) (b : Fin 8) (r : Reg7) :
    OpcodeRow p imm (192 + 56 * k.val + 7 * b.val + idxR r) (bitOps.get k b r)
  | incDecPair (k : Fin 2) (q : Pair) : OpcodeRow p imm (360 + 4 * k.val + idxP q) (incDecOps.get k q)
  | addHl (q : Pair) : OpcodeRow p imm (368 + idxP q) (addHlOf q)
  | exDeHl : OpcodeRow p imm 372 .exDeHl
  | ldSpHl : OpcodeRow p imm 373 .ldSpHl
  | ldPairImm (q : Pair) : OpcodeRow p imm (374 + idxP q) (ldPairImmOf q (immWord imm))
  | adcSbcHl (k : Fin 2) (q : Pair) : OpcodeRow p imm (378 + 4 * k.val + idxP q) (adcSbcOps.get k q)

theorem OpcodeRow.of_opcode_eq {p : Params} {imm : Word} {o o' : Nat} {i : Instr} (h : OpcodeRow p imm o' i)
    (ho : o' = o) : OpcodeRow p imm o i := ho ▸ h

/-- The dispatcher answers only rows of the table: in each range the quotients and remainders of R49 are the positions
from which R48 computes the opcode. -/
theorem opcodeRow_of_dispatch {p : Params} {imm : Word} {o : Nat} {i : Instr} (h : dispatch p o imm = some i) :
    OpcodeRow p imm o i := by
  obtain hlt | h49 := Nat.lt_or_ge o 49
  · obtain rfl := Option.some.inj ((dispatch_load p imm hlt).symm.trans h)
    exact .of_opcode_eq (.ld _ _) (by simp only [idxA_ordA, Fin.val_ofNat]; omega)
  obtain hlt | h56 := Nat.lt_or_ge o 56
  · obtain rfl := Option.some.inj ((dispatch_loadImm p imm h49 hlt).symm.trans h)
    exact .of_opcode_eq (.ldImm _) (by simp only [idxA_ordA, Fin.val_ofNat]; omega)
  obtain hlt | h112 := Nat.lt_or_ge o 112
  · obtain rfl := Option.some.inj ((dispatch_alu p imm h56 hlt).symm.trans h)
    exact .of_opcode_eq (.alu _ _) (by simp only [idxA_ordA, Fin.val_ofNat]; omega)
  obtain hlt | h119 := Nat.lt_or_ge o 119
  · obtain rfl := Option.some.inj ((dispatch_inc p imm h112 hlt).symm.trans h)
    exact .of_opcode_eq (.inc _) (by simp only [idxR_ordR, Fin.val_ofNat]; omega)
  obtain hlt | h126 := Nat.lt_or_ge o 126
  · obtain rfl := Option.some.inj ((dispatch_dec p imm h119 hlt).symm.trans h)
    exact .of_opcode_eq (.dec _) (by simp only [idxR_ordR, Fin.val_ofNat]; omega)
  obtain hlt | h136 := Nat.lt_or_ge o 136
  · obtain rfl := Option.some.inj ((dispatch_misc p imm h126 hlt).symm.trans h)
    exact .of_opcode_eq (.misc _) (by simp only [Fin.val_ofNat]; omega)
  obtain hlt | h185 := Nat.lt_or_ge o 185
  · obtain rfl := Option.some.inj ((dispatch_rot p imm h136 hlt).symm.trans h)
    exact .of_opcode_eq (.rot _ _) (by simp only [idxR_ordR, Fin.val_ofNat]; omega)
  obtain hlt | h192 := Nat.lt_or_ge o 192
  · obtain rfl := Option.some.inj ((dispatch_sll p imm h185 hlt).symm.trans h)
    exact .of_opcode_eq (.sll _) (by simp only [Fin.val_ofNat]; omega)
  obtain hlt | h360 := Nat.lt_or_ge o 360
  · obtain rfl := Option.some.inj ((dispatch_bitop p imm h192 hlt).symm.trans h)
    exact .of_opcode_eq (.bitop _ _ _) (by simp only [idxR_ordR, Fin.val_ofNat]; omega)
  obtain hlt | h368 := Nat.lt_or_ge o 368
  · obtain rfl := Option.some.inj ((dispatch_incDecPair p imm h360 hlt).symm.trans h)
    exact .of_opcode_eq (.incDecPair _ _) (by simp only [idxP_ordP, Fin.val_ofNat]; omega)
  obtain hlt | h372 := Nat.lt_or_ge o 372
  · obtain rfl := Option.some.inj ((dispatch_addHl p imm h368 hlt).symm.trans h)
    exact .of_opcode_eq (.addHl _) (by simp only [idxP_ordP, Fin.val_ofNat]; omega)
  obtain hlt | h373 := Nat.lt_or_ge o 373
  · obtain rfl := Option.some.inj ((dispatch_exDeHl p imm h372 hlt).symm.trans h)
    exact .of_opcode_eq .exDeHl (by omega)
  obtain hlt | h374 := Nat.lt_or_ge o 374
  · obtain rfl := Option.some.inj ((dispatch_ldSpHl p imm h373 hlt).symm.trans h)
    exact .of_opcode_eq .ldSpHl (by omega)
  obtain hlt | h378 := Nat.lt_or_ge o 378
  · obtain rfl := Option.some.inj ((dispatch_loadPairImm p imm h374 hlt).symm.trans h)
    exact .of_opcode_eq (.ldPairImm _) (by simp only [idxP_ordP, Fin.val_ofNat]; omega)
  obtain hlt | h386 := Nat.lt_or_ge o 386
  · obtain rfl := Option.some.inj ((dispatch_adcSbcHl p imm h378 hlt).symm.trans h)
    exact .of_opcode_eq (.adcSbcHl _ _) (by simp only [idxP_ordP, Fin.val_ofNat]; omega)
  cases (dispatch_outOfRange p imm h386).symm.trans h

/-- The dispatcher takes every row's opcode to its instruction. -/
theorem dispatch_of_opcodeRow {p : Params} {imm : Word} {o : Nat} {i : Instr} (h : OpcodeRow p imm o i) :
    dispatch p o imm = some i := by
  cases h with
  | ld dst src => cases dst <;> cases src <;> rfl
  | ldImm dst => cases dst <;> rfl
  | alu k s => fin_cases k <;> cases s <;> rfl
  | inc r | dec r => cases r <;> rfl
  | misc k | sll k => fin_cases k <;> rfl
  | rot k r => fin_cases k <;> cases r <;> rfl
  | bitop k b r => fin_cases k <;> fin_cases b <;> cases r <;> rfl
  | incDecPair k q | adcSbcHl k q => fin_cases k <;> cases q <;> rfl
  | addHl q | ldPairImm q => cases q <;> rfl
  | exDeHl | ldSpHl => rfl

/-- `OpcodeRow` is the dispatcher of R49, said as a relation. -/
theorem dispatch_eq_some_iff {p : Params} {imm : Word} {o : Nat} {i : Instr} :
    dispatch p o imm = some i ↔ OpcodeRow p imm o i := ⟨opcodeRow_of_dispatch, dispatch_of_opcodeRow⟩

/-! ### What the table says of the decoder and the encoder -/

theorem OpcodeRow.lt {p : Params} {imm : Word} {o : Nat} {i : Instr} (h : OpcodeRow p imm o i) : o < 386 := by
  by_contra hge
  cases (dispatch_outOfRange p imm (Nat.le_of_not_lt hge)).symm.trans (dispatch_of_opcodeRow h)

/-- The decoder on a row of the table. -/
theorem decode_of_opcodeRow {p : Params} {imm : Word} {o : Nat} {i : Instr} (h : OpcodeRow p imm o i) :
    decode p ⟨BitVec.ofNat 16 o, imm⟩ = .instr i := by
  have hlt := h.lt
  apply decode_of_dispatch
  rw [BitVec.toNat_ofNat, Nat.mod_eq_of_lt (by omega)]
  exact dispatch_of_opcodeRow h

/-- The decoder answers only rows of the table. -/
theorem opcodeRow_of_decode {p : Params} {x : Presented} {i : Instr} (h : decode p x = .instr i) :
    OpcodeRow p x.imm x.opcode.toNat i := by
  unfold decode at h
  split at h
  · next hd =>
    cases h
    exact opcodeRow_of_dispatch hd
  · cases h

/-- A row that holds for every immediate fixes what its opcode is. -/
theorem encodes_of_opcodeRow {p : Params} {o : Nat} {i : Instr} (h : ∀ imm, OpcodeRow p imm o i) : Encodes p o i :=
  fun imm => decode_of_opcodeRow (h imm)

/-- The encoder gives back the opcode of a row (R41): of SLL, because a well-formed map names no register twice. -/
theorem opcode_encode_of_opcodeRow {p : Params} (hp : p.wellFormed = true) {imm : Word} {o : Nat} {i : Instr}
    (h : OpcodeRow p imm o i) : (encode p i).opcode = BitVec.ofNat 16 o := by
  cases h with
  | ld dst src => rw [encode_ldOf]
  | ldImm dst => rw [encode_ldImmOf]
  | alu k s => rw [encode_aluOps]
  | inc r => rw [encode_incOf]
  | dec r => rw [encode_decOf]
  | misc k => rw [encode_miscOps]
  | rot k r => rw [encode_rotOps]
  | sll k => rw [encode_sllRegMap hp]
  | bitop k b r => rw [encode_bitOps]
  | incDecPair k q => rw [encode_incDecOps]
  | addHl q => rw [encode_addHlOf]
  | exDeHl | ldSpHl => rfl
  | ldPairImm q => rw [encode_ldPairImmOf]
  | adcSbcHl k q => rw [encode_adcSbcOps]

theorem decode_encode_ldImmOf (p : Params) (dst : Reg7) (n : Byte) :
    decode p (encode p (ldImmOf dst n)) = .instr (ldImmOf dst n) := by
  rw [encode_ldImmOf, decode_of_opcodeRow (.ldImm dst), immByte_setWidth]

theorem decode_encode_ldPairImmOf (p : Params) (q : Pair) (nn : Word) :
    decode p (encode p (ldPairImmOf q nn)) = .instr (ldPairImmOf q nn) := by
  rw [encode_ldPairImmOf]
  exact decode_of_opcodeRow (.ldPairImm q)

/-- Any map that holds the register has its first position as a row; it need not hold it once. -/
theorem decode_encode_sllOf {p : Params} {r : Reg7} (h : p.sllRegMap.toList.contains r = true) :
    decode p (encode p (sllOf r)) = .instr (sllOf r) := by
  have hrow : OpcodeRow p 0 (185 + sllPosition p r) (sllOf (p.sllRegMap.get (Fin.ofNat 7 (sllPosition p r)))) :=
    .of_opcode_eq (.sll _) (by rw [Fin.val_ofNat, Nat.mod_eq_of_lt (sllPosition_lt p r h)])
  rw [encode_sllOf, decode_of_opcodeRow hrow, sllRegMap_get_sllPosition p r h]

/-- Outside families 2 and 14 a row does not name the immediate (R42). -/
theorem OpcodeRow.change_imm {p : Params} {imm : Word} {o : Nat} {i : Instr} (h : OpcodeRow p imm o i)
    (h2 : ¬ (49 ≤ o ∧ o < 56)) (h14 : ¬ (374 ≤ o ∧ o < 378)) (imm' : Word) : OpcodeRow p imm' o i := by
  cases h with
  | ldImm dst => have := idxA_lt dst; omega
  | ldPairImm q => have := idxP_lt q; omega
  | ld dst src => exact .ld dst src
  | alu k s => exact .alu k s
  | inc r => exact .inc r
  | dec r => exact .dec r
  | misc k => exact .misc k
  | rot k r => exact .rot k r
  | sll k => exact .sll k
  | bitop k b r => exact .bitop k b r
  | incDecPair k q => exact .incDecPair k q
  | addHl q => exact .addHl q
  | exDeHl => exact .exDeHl
  | ldSpHl => exact .ldSpHl
  | adcSbcHl k q => exact .adcSbcHl k q

theorem dispatch_imm_irrelevant (p : Params) {o : Nat} (h2 : ¬ (49 ≤ o ∧ o < 56)) (h14 : ¬ (374 ≤ o ∧ o < 378))
    (imm imm' : Word) : dispatch p o imm = dispatch p o imm' := by
  refine Option.ext fun i => ?_
  simp only [dispatch_eq_some_iff]
  exact ⟨fun h => h.change_imm h2 h14 imm', fun h => h.change_imm h2 h14 imm⟩

/-- An execute reads the pair through the decoder alone. -/
theorem execute_congr_decode {s : State} {x y : Presented} (h : decode s.params x = decode s.params y) :
    execute x s = execute y s := by
  simp only [execute, h]

/-! ### The statements -/

/-- Settles O14: SLL and the immediate loads by their families; of every other instruction the opcode is a number, on
which the dispatcher evaluates. -/
theorem decodeInvertsEncode : Obligations.DecodeInvertsEncode := by
  unfold Obligations.DecodeInvertsEncode
  intro p i hwf
  cases i with
  | ldAImm n => exact decode_encode_ldImmOf p .a n
  | ldBImm n => exact decode_encode_ldImmOf p .b n
  | ldCImm n => exact decode_encode_ldImmOf p .c n
  | ldDImm n => exact decode_encode_ldImmOf p .d n
  | ldEImm n => exact decode_encode_ldImmOf p .e n
  | ldHImm n => exact decode_encode_ldImmOf p .h n
  | ldLImm n => exact decode_encode_ldImmOf p .l n
  | ldBcImm nn => exact decode_encode_ldPairImmOf p .bc nn
  | ldDeImm nn => exact decode_encode_ldPairImmOf p .de nn
  | ldHlImm nn => exact decode_encode_ldPairImmOf p .hl nn
  | ldSpImm nn => exact decode_encode_ldPairImmOf p .sp nn
  | sllA => exact decode_encode_sllOf (r := .a) hwf
  | sllB => exact decode_encode_sllOf (r := .b) hwf
  | sllC => exact decode_encode_sllOf (r := .c) hwf
  | sllD => exact decode_encode_sllOf (r := .d) hwf
  | sllE => exact decode_encode_sllOf (r := .e) hwf
  | sllH => exact decode_encode_sllOf (r := .h) hwf
  | sllL => exact decode_encode_sllOf (r := .l) hwf
  | _ => exact decode_of_encode rfl (by decide) rfl

/-- Settles O15: the encoder's pair is the valid opcode of an instruction, and every pair that decodes to the
instruction has the encoder's opcode. -/
theorem opcodesAndInstructionsCorrespond : Obligations.OpcodesAndInstructionsCorrespond := by
  unfold Obligations.OpcodesAndInstructionsCorrespond
  intro p hp
  have opcode_eq {x : Presented} {i : Instr} (h : decode p x = .instr i) : x.opcode = (encode p i).opcode := by
    rw [opcode_encode_of_opcodeRow hp (opcodeRow_of_decode h), BitVec.ofNat_toNat, BitVec.setWidth_eq]
  refine ⟨fun x hx => ?_, fun i => ?_, fun x y i hx hy => (opcode_eq hx).trans (opcode_eq hy).symm⟩
  · obtain ⟨i, hi⟩ := dispatch_inRange p x.imm (of_decide_eq_true hx)
    exact ⟨i, decode_of_dispatch hi⟩
  · have hdec := decodeInvertsEncode p i (wellFormed_of_params hp i)
    exact ⟨encode p i, decide_eq_true (opcodeRow_of_decode hdec).lt, hdec⟩

/-- Settles O16: the encoder by family. -/
theorem opcodesFollowTheFormulas : Obligations.OpcodesFollowTheFormulas := by
  unfold Obligations.OpcodesFollowTheFormulas
  exact fun p hp => ⟨encode_ldOf p, fun dst n => congrArg Presented.opcode (encode_ldImmOf p dst n), encode_aluOps p,
    encode_incOf p, encode_decOf p, encode_miscOps p, encode_rotOps p, encode_sllRegMap hp, encode_bitOps p,
    encode_incDecOps p 0, encode_incDecOps p 1, encode_addHlOf p, rfl, rfl, encode_ldPairImmOf p, encode_adcSbcOps p 0,
    encode_adcSbcOps p 1⟩

/-- Settles O17: the dispatcher has a family for every opcode below 386 and for none from there up. -/
theorem illegalOpcodesAreThoseFrom386 : Obligations.IllegalOpcodesAreThoseFrom386 := by
  unfold Obligations.IllegalOpcodesAreThoseFrom386
  refine fun p x o => ⟨outOfRange_of_decode, ?_⟩
  rintro ⟨rfl, hge⟩
  exact decode_of_dispatch_none (dispatch_outOfRange p x.imm hge)

/-- Settles O18: only the rows of families 2 and 14 name the immediate, the first its low byte. -/
theorem onlyTheImmediateLoadsConsumeTheImmediate : Obligations.OnlyTheImmediateLoadsConsumeTheImmediate := by
  unfold Obligations.OnlyTheImmediateLoadsConsumeTheImmediate
  intro o imm imm' s
  refine ⟨fun h2 h14 => ?_, fun ⟨hge, hlt⟩ => ?_, fun ⟨hge, hlt⟩ => ?_⟩
  · have hdec : decode s.params ⟨o, imm⟩ = decode s.params ⟨o, imm'⟩ := by
      simp only [decode, dispatch_imm_irrelevant s.params h2 h14 imm imm']
    exact ⟨hdec, execute_congr_decode hdec⟩
  · rw [← lowByte_eq_lo8]
    exact ⟨_, decode_of_dispatch (dispatch_loadImm s.params imm hge hlt)⟩
  · exact ⟨_, decode_of_dispatch (dispatch_loadPairImm s.params imm hge hlt)⟩

/-- Settles O2: the step takes the execute off the list, and the execute is the decoded instruction. -/
theorem stepRunsDecodedInstruction : Obligations.StepRunsDecodedInstruction := by
  unfold Obligations.StepRunsDecodedInstruction
  intro s x rest i hin hlive hdec
  calc step s = execute x { s with inputs := rest } := step_of_cons hin
    _ = exec i { s with inputs := rest } := execute_of_instr hlive hdec

/-- Settles O3: the step takes off the list what `withFetchWord` put on it. -/
theorem fetchedWordIsPresentedNext : Obligations.FetchedWordIsPresentedNext := by
  unfold Obligations.FetchedWordIsPresentedNext
  exact fun s nbits w => step_of_cons (s := s.withFetchWord nbits w) rfl

/-- Settles O13: each word is decoded. -/
theorem tableWordsDecode : Obligations.TableWordsDecode := by
  unfold Obligations.TableWordsDecode
  decide

/-- Settles O24: the diagonal rows of family 1 write a register's own value (R52). -/
theorem diagonalLoadsChangeNothing : Obligations.DiagonalLoadsChangeNothing := by
  unfold Obligations.DiagonalLoadsChangeNothing
  refine fun r s => ⟨encodes_of_opcodeRow fun imm => .of_opcode_eq (.ld r r) (by omega), ?_, rfl⟩
  rw [exec_ldOf, loadReg, setReg8_reg8]

end Sys2Proof.Machine
end

section
/-! The flag tables (40_flag_tables.md). A lookup index holds one bit of both operands and the same bit of the result. The
result's bit is the sum bit of a full adder, so the index determines the carry into that bit, and each 8-entry table gives
the carry out of it (`H`) or whether the two differ (`P/V`). A subtraction is the addition of the complement, its carries
the inverted borrows. -/

namespace Sys2Proof.Machine

open Sys2Proof.Claims

/-! ### The carry-lookup index (R62, R63) -/

/-- The index `4*r + 2*b + a` of an 8-entry table, from its three bits. -/
def carryIndex (a b r : Bool) : BitVec 3 := BitVec.ofBoolListLE [a, b, r]

/-- Three neighbouring bits of a lookup byte are an index. -/
theorem extractLsb'_eq_carryIndex (k : Byte) (n : Nat) :
    k.extractLsb' n 3 = carryIndex (k.getLsbD n) (k.getLsbD (n + 1)) (k.getLsbD (n + 2)) := by
  apply BitVec.eq_of_getLsbD_eq
  intro i hi
  rw [carryIndex, BitVec.getLsbD_ofBoolListLE]
  match i with
  | 0 | 1 | 2 => simp

theorem halfIndex_lookup8 (a b r : Byte) :
    halfIndex (lookup8 a b r) = carryIndex (a.getLsbD 3) (b.getLsbD 3) (r.getLsbD 3) := by
  rw [halfIndex, extractLsb'_eq_carryIndex]
  simp [lookup8]

theorem overflowIndex_lookup8 (a b r : Byte) :
    overflowIndex (lookup8 a b r) = carryIndex (a.getLsbD 7) (b.getLsbD 7) (r.getLsbD 7) := by
  rw [overflowIndex, extractLsb'_eq_carryIndex]
  simp [lookup8]

theorem halfIndex_lookup16 (a b r : Word) :
    halfIndex (lookup16 a b r) = carryIndex (a.getLsbD 11) (b.getLsbD 11) (r.getLsbD 11) := by
  rw [halfIndex, extractLsb'_eq_carryIndex]
  simp [lookup16]

theorem overflowIndex_lookup16 (a b r : Word) :
    overflowIndex (lookup16 a b r) = carryIndex (a.getLsbD 15) (b.getLsbD 15) (r.getLsbD 15) := by
  rw [overflowIndex, extractLsb'_eq_carryIndex]
  simp [lookup16]

/-! ### The 8-entry tables at the bits of a full adder (R64 to R67)

`x` and `y` are the operands' bits, `c` is the carry into them; for the two tables of the subtraction the adder adds
`!y`. -/

theorem tableAt_hcAdd (x y c : Bool) :
    tableAt hcAdd (carryIndex x y (x ^^ (y ^^ c))) = flagIf (x.atLeastTwo y c) flagH := by
  revert x y c
  decide

theorem tableAt_ovAdd (x y c : Bool) :
    tableAt ovAdd (carryIndex x y (x ^^ (y ^^ c))) = flagIf (c ^^ x.atLeastTwo y c) flagPV := by
  revert x y c
  decide

theorem tableAt_hcSub (x y c : Bool) :
    tableAt hcSub (carryIndex x y (x ^^ (!y ^^ c))) = flagIf (!x.atLeastTwo (!y) c) flagH := by
  revert x y c
  decide

theorem tableAt_ovSub (x y c : Bool) :
    tableAt ovSub (carryIndex x y (x ^^ (!y ^^ c))) = flagIf (c ^^ x.atLeastTwo (!y) c) flagPV := by
  revert x y c
  decide

/-! ### The adder at every width -/

section Adder

variable {w : Nat} (x y : BitVec w) (c : Bool)

/-- The sum with a carry-in, as the library's carry chain `BitVec.carry` describes it. -/
def addCarry : BitVec w := x + y + (BitVec.ofBool c).setWidth w

theorem ofNat_sum_eq_addCarry : BitVec.ofNat w (x.toNat + y.toNat + c.toNat) = addCarry x y c :=
  BitVec.eq_of_toNat_eq (by simp [addCarry])

theorem ofInt_diff_eq_addCarry_not :
    BitVec.ofInt w ((x.toNat : Int) - y.toNat - c.toNat) = addCarry x (~~~y) (!c) := by
  have hone : (1#1).setWidth w = 1#w := BitVec.eq_of_toNat_eq (by simp)
  rw [addCarry, BitVec.not_eq_neg_add, Int.sub_eq_add_neg, Int.sub_eq_add_neg]
  cases c <;> simp [BitVec.ofInt_add, BitVec.ofInt_neg, hone] <;> ring

/-- The low `k` bits of `x - y - c` borrow exactly when those of `x + ~y + !c` do not carry. -/
theorem not_carry_not_eq {k : Nat} (hk : k ≤ w) :
    (!BitVec.carry k x (~~~y) (!c)) = decide (x.toNat % 2 ^ k < y.toNat % 2 ^ k + c.toNat) := by
  have hnot : (~~~y).toNat % 2 ^ k = 2 ^ k - 1 - y.toNat % 2 ^ k := by
    rw [← BitVec.toNat_setWidth, BitVec.setWidth_not hk, BitVec.toNat_not, BitVec.toNat_setWidth]
  have hlt : y.toNat % 2 ^ k < 2 ^ k := Nat.mod_lt _ (Nat.two_pow_pos k)
  rw [BitVec.carry, hnot, ← decide_not, decide_eq_decide]
  cases c <;> simp <;> omega

variable {i : Nat} (hi : i < w)
include hi

theorem tableAt_hcAdd_addCarry :
    tableAt hcAdd (carryIndex (x.getLsbD i) (y.getLsbD i) ((addCarry x y c).getLsbD i)) =
      flagIf (BitVec.carry (i + 1) x y c) flagH := by
  rw [addCarry, BitVec.getLsbD_add_add_bool hi, BitVec.carry_succ, tableAt_hcAdd]

theorem tableAt_ovAdd_addCarry :
    tableAt ovAdd (carryIndex (x.getLsbD i) (y.getLsbD i) ((addCarry x y c).getLsbD i)) =
      flagIf (BitVec.carry i x y c ^^ BitVec.carry (i + 1) x y c) flagPV := by
  rw [addCarry, BitVec.getLsbD_add_add_bool hi, BitVec.carry_succ, tableAt_ovAdd]

theorem getLsbD_not_of_lt : (~~~y).getLsbD i = !y.getLsbD i := by
  simp [hi]

theorem tableAt_hcSub_addCarry_not :
    tableAt hcSub (carryIndex (x.getLsbD i) (y.getLsbD i) ((addCarry x (~~~y) c).getLsbD i)) =
      flagIf (!BitVec.carry (i + 1) x (~~~y) c) flagH := by
  rw [addCarry, BitVec.getLsbD_add_add_bool hi, BitVec.carry_succ, getLsbD_not_of_lt y hi, tableAt_hcSub]

theorem tableAt_ovSub_addCarry_not :
    tableAt ovSub (carryIndex (x.getLsbD i) (y.getLsbD i) ((addCarry x (~~~y) c).getLsbD i)) =
      flagIf (BitVec.carry i x (~~~y) c ^^ BitVec.carry (i + 1) x (~~~y) c) flagPV := by
  rw [addCarry, BitVec.getLsbD_add_add_bool hi, BitVec.carry_succ, getLsbD_not_of_lt y hi, tableAt_ovSub]

end Adder

/-! ### Signed overflow as the two carries at the sign bit -/

section Signed

variable {n : Nat} (x y : BitVec (n + 1)) (c : Bool)

/-- The two's-complement reading: the sign bit has weight `-2^n`. -/
theorem toInt_eq_mod_sub :
    x.toInt = (x.toNat % 2 ^ n : Nat) - (2 ^ n : Nat) * ((x.getLsbD n).toNat : Int) := by
  have hsplit : x.toNat = x.toNat % 2 ^ n + 2 ^ n * (x.getLsbD n).toNat := by
    rw [← BitVec.testBit_toNat, Nat.toNat_testBit, ← Nat.mod_pow_succ, BitVec.toNat_mod_cancel]
  rw [BitVec.toInt_eq_msb_cond, BitVec.msb_eq_getLsbD_last, Nat.add_sub_cancel, Nat.pow_succ]
  generalize x.toNat % 2 ^ n = low, x.getLsbD n = sign at hsplit ⊢
  generalize 2 ^ n = m at hsplit ⊢
  cases sign <;> simp at hsplit ⊢ <;> omega

theorem toInt_not_eq : (~~~y).toInt = -y.toInt - 1 := by
  have hy := y.isLt
  rw [BitVec.toInt_eq_toNat_cond, BitVec.toInt_eq_toNat_cond, BitVec.toNat_not]
  split <;> split <;> omega

/-- With `l` the sum of the low `n` bits, the exact sum is `l` less `2^n` for every negative operand: it leaves the range
when neither is negative and `l` carries, or both are and `l` does not. -/
theorem carry_xor_carry_succ_eq :
    (BitVec.carry n x y c ^^ BitVec.carry (n + 1) x y c) =
      decide (x.toInt + y.toInt + c.toNat < -(2 ^ n : Nat) ∨ (2 ^ n : Nat) - 1 < x.toInt + y.toInt + c.toNat) := by
  have hx : x.toNat % 2 ^ n < 2 ^ n := Nat.mod_lt _ (Nat.two_pow_pos n)
  have hy : y.toNat % 2 ^ n < 2 ^ n := Nat.mod_lt _ (Nat.two_pow_pos n)
  have hc : c.toNat ≤ 1 := c.toNat_le
  rw [BitVec.carry_succ, toInt_eq_mod_sub x, toInt_eq_mod_sub y, BitVec.carry, Bool.eq_iff_iff, decide_eq_true_iff]
  generalize x.toNat % 2 ^ n = lowX, y.toNat % 2 ^ n = lowY at hx hy ⊢
  generalize 2 ^ n = m at hx hy ⊢
  cases x.getLsbD n <;> cases y.getLsbD n <;> simp <;> omega

theorem carry_xor_carry_succ_not_eq :
    (BitVec.carry n x (~~~y) (!c) ^^ BitVec.carry (n + 1) x (~~~y) (!c)) =
      decide (x.toInt - y.toInt - c.toNat < -(2 ^ n : Nat) ∨ (2 ^ n : Nat) - 1 < x.toInt - y.toInt - c.toNat) := by
  have hdiff : x.toInt + (~~~y).toInt + (!c).toNat = x.toInt - y.toInt - c.toNat := by
    rw [toInt_not_eq]
    cases c <;> simp <;> omega
  rw [carry_xor_carry_succ_eq, hdiff]

end Signed

/-! ### The laws of the 8-entry tables (R69) -/

section Bytes

variable (a b : Byte) (c : Bool)

theorem tableAt_hcAdd_sum8 :
    tableAt hcAdd (halfIndex (lookup8 a b (sum8 a b c))) =
      flagIf (decide (15 < a.toNat % 16 + b.toNat % 16 + c.toNat)) flagH := by
  rw [halfIndex_lookup8, sum8, ofNat_sum_eq_addCarry, tableAt_hcAdd_addCarry a b c (by omega)]
  rfl

theorem tableAt_ovAdd_sum8 :
    tableAt ovAdd (overflowIndex (lookup8 a b (sum8 a b c))) =
      flagIf (overflows8 (a.toInt + b.toInt + c.toNat)) flagPV := by
  rw [overflowIndex_lookup8, sum8, ofNat_sum_eq_addCarry, tableAt_ovAdd_addCarry a b c (by omega),
    carry_xor_carry_succ_eq a b c]
  rfl

theorem tableAt_hcSub_diff8 :
    tableAt hcSub (halfIndex (lookup8 a b (diff8 a b c))) =
      flagIf (decide (a.toNat % 16 < b.toNat % 16 + c.toNat)) flagH := by
  rw [halfIndex_lookup8, diff8, ofInt_diff_eq_addCarry_not, tableAt_hcSub_addCarry_not a b (!c) (by omega),
    not_carry_not_eq a b c (by omega)]
  rfl

theorem tableAt_ovSub_diff8 :
    tableAt ovSub (overflowIndex (lookup8 a b (diff8 a b c))) =
      flagIf (overflows8 (a.toInt - b.toInt - c.toNat)) flagPV := by
  rw [overflowIndex_lookup8, diff8, ofInt_diff_eq_addCarry_not, tableAt_ovSub_addCarry_not a b (!c) (by omega),
    carry_xor_carry_succ_not_eq a b c]
  rfl

end Bytes

section Words

variable (a b : Word) (c : Bool)

theorem tableAt_hcAdd_sum16 :
    tableAt hcAdd (halfIndex (lookup16 a b (sum16 a b c))) =
      flagIf (decide (4095 < a.toNat % 4096 + b.toNat % 4096 + c.toNat)) flagH := by
  rw [halfIndex_lookup16, sum16, ofNat_sum_eq_addCarry, tableAt_hcAdd_addCarry a b c (by omega)]
  rfl

theorem tableAt_ovAdd_sum16 :
    tableAt ovAdd (overflowIndex (lookup16 a b (sum16 a b c))) =
      flagIf (overflows16 (a.toInt + b.toInt + c.toNat)) flagPV := by
  rw [overflowIndex_lookup16, sum16, ofNat_sum_eq_addCarry, tableAt_ovAdd_addCarry a b c (by omega),
    carry_xor_carry_succ_eq a b c]
  rfl

theorem tableAt_hcSub_diff16 :
    tableAt hcSub (halfIndex (lookup16 a b (diff16 a b c))) =
      flagIf (decide (a.toNat % 4096 < b.toNat % 4096 + c.toNat)) flagH := by
  rw [halfIndex_lookup16, diff16, ofInt_diff_eq_addCarry_not, tableAt_hcSub_addCarry_not a b (!c) (by omega),
    not_carry_not_eq a b c (by omega)]
  rfl

theorem tableAt_ovSub_diff16 :
    tableAt ovSub (overflowIndex (lookup16 a b (diff16 a b c))) =
      flagIf (overflows16 (a.toInt - b.toInt - c.toNat)) flagPV := by
  rw [overflowIndex_lookup16, diff16, ofInt_diff_eq_addCarry_not, tableAt_ovSub_addCarry_not a b (!c) (by omega),
    carry_xor_carry_succ_not_eq a b c]
  rfl

end Words

/-! ### The 256-entry tables (R59 to R61) -/

@[simp] theorem flagIf_false (m : Byte) : flagIf false m = 0 := rfl

theorem getLsbD_flagIf (c : Bool) (m : Byte) (i : Nat) : (flagIf c m).getLsbD i = (c && m.getLsbD i) := by
  cases c <;> simp [flagIf]

/-- A flag byte is the or of the masks of its set flags (10_state.md R16). -/
theorem flagByte_eq_or (s z five h three pv n c : Bool) :
    flagByte s z five h three pv n c =
      flagIf s flagS ||| flagIf z flagZ ||| flagIf five flag5 ||| flagIf h flagH ||| flagIf three flag3 |||
        flagIf pv flagPV ||| flagIf n flagN ||| flagIf c flagC := by
  revert s z five h three pv n c
  decide

theorem and_eq_or_flagIf (v : Byte) :
    v &&& 0xA8 = flagIf (v.getLsbD 7) flagS ||| flagIf (v.getLsbD 5) flag5 ||| flagIf (v.getLsbD 3) flag3 := by
  apply BitVec.eq_of_getLsbD_eq
  intro i hi
  simp only [BitVec.getLsbD_and, BitVec.getLsbD_or, getLsbD_flagIf]
  match i with
  | 0 | 1 | 2 | 3 | 4 | 5 | 6 | 7 => simp [flagS, flag5, flag3]

theorem sz53_eq_flagByte (v : Byte) :
    sz53 v = flagByte (v.getLsbD 7) (v == 0) (v.getLsbD 5) false (v.getLsbD 3) false false false := by
  simp only [sz53, and_eq_or_flagIf, flagByte_eq_or, flagIf_false]
  ac_rfl

/-- The exclusive or of the bits is the parity of their number. -/
theorem popcount_even_eq_evenParity (v : Byte) : (popcount v % 2 == 0) = evenParity v := by
  simp only [popcount, evenParity, List.range, List.range.loop, List.map, List.sum_cons, List.sum_nil]
  generalize v.getLsbD 0 = b0, v.getLsbD 1 = b1, v.getLsbD 2 = b2, v.getLsbD 3 = b3, v.getLsbD 4 = b4,
    v.getLsbD 5 = b5, v.getLsbD 6 = b6, v.getLsbD 7 = b7
  revert b0 b1 b2 b3 b4 b5 b6 b7
  decide

theorem par_eq_flagByte (v : Byte) :
    par v = flagByte false false false false false (evenParity v) false false := by
  simp [par, popcount_even_eq_evenParity, flagByte_eq_or]

/-! ### The statements -/

/-- Settles O20: the laws for bytes and for words, each from the carries of one adder. -/
theorem carryTablesGiveTrueCarryAndOverflow : Obligations.CarryTablesGiveTrueCarryAndOverflow := by
  unfold Obligations.CarryTablesGiveTrueCarryAndOverflow
  exact ⟨fun a b c =>
      ⟨tableAt_hcAdd_sum8 a b c, tableAt_ovAdd_sum8 a b c, tableAt_hcSub_diff8 a b c, tableAt_ovSub_diff8 a b c⟩,
    fun a b c =>
      ⟨tableAt_hcAdd_sum16 a b c, tableAt_ovAdd_sum16 a b c, tableAt_hcSub_diff16 a b c, tableAt_ovSub_diff16 a b c⟩⟩

/-- Settles O19: each table entry, flag by flag. -/
theorem byteTablesMatchTheirFormulas : Obligations.ByteTablesMatchTheirFormulas := by
  unfold Obligations.ByteTablesMatchTheirFormulas
  exact fun v => ⟨sz53_eq_flagByte v, par_eq_flagByte v, rfl⟩

end Sys2Proof.Machine
end

section
/-! 8-bit loads (41_loads8.md): the model's register access is the statements' vocabulary, and a load writes one register
and keeps `F` (10_state.md R17). -/

namespace Sys2Proof.Machine

open Sys2Proof.Claims

/-! ### The 8-bit registers in the statements' vocabulary -/

/-- Reading a register. -/
theorem reg8_eq_regValue (r : Reg7) (s : State) : reg8 r s = regValue s r := by cases r <;> rfl

/-- Writing a register keeps `F`. -/
theorem setReg8_eq_withReg (r : Reg7) (v : Byte) (s : State) : setReg8 r v s = withReg s r v s.f := by
  cases r <;> rfl

/-- The byte of an immediate is its low byte (30_encoding.md R43). -/
theorem immByte_eq_lo8 (imm : Word) : immByte imm = lo8 imm := lowByte_eq_lo8 imm

/-! ### The statements -/

/-- Settles O22: the opcode is a row of family 1, and the load writes the source's value with `setReg8`, which keeps `F`. -/
theorem loadRegisterCopiesSource : Obligations.LoadRegisterCopiesSource := by
  unfold Obligations.LoadRegisterCopiesSource
  refine fun dst src s => ⟨encodes_of_opcodeRow fun _ => .ld dst src, ?_⟩
  rw [exec_ldOf, loadReg, reg8_eq_regValue, setReg8_eq_withReg]

/-- Settles O23: the opcode is a row of family 2, which names the low byte of the immediate, and the load writes its byte
with `setReg8`. -/
theorem loadImmediateTakesLowByte : Obligations.LoadImmediateTakesLowByte := by
  unfold Obligations.LoadImmediateTakesLowByte
  intro dst n imm s
  refine ⟨?_, ?_⟩
  · rw [← immByte_eq_lo8]
    exact decode_of_opcodeRow (.ldImm dst)
  · rw [exec_ldImmOf, loadImm, setReg8_eq_withReg]

end Sys2Proof.Machine
end

section
/-! 8-bit ALU (42_alu8.md): each adder primitive and flag formula of the model is the statements' arithmetic, and each
operation writes `F` and at most one register. -/

namespace Sys2Proof.Machine

open Sys2Proof.Claims

/-! ### Single flags -/

@[simp] theorem flagIf_true (m : Byte) : flagIf true m = m := rfl

theorem and_flagC (v : Byte) : v &&& flagC = flagIf (v.getLsbD 0) flagC := BitVec.and_twoPow v 0
theorem and_flag3 (v : Byte) : v &&& flag3 = flagIf (v.getLsbD 3) flag3 := BitVec.and_twoPow v 3
theorem and_flag5 (v : Byte) : v &&& flag5 = flagIf (v.getLsbD 5) flag5 := BitVec.and_twoPow v 5
theorem and_flagS (v : Byte) : v &&& flagS = flagIf (v.getLsbD 7) flagS := BitVec.and_twoPow v 7

/-- The incoming carry is the flag C (10_state.md R16). -/
theorem carryIn_eq_ofBool_carry (s : State) : carryIn s = BitVec.ofBool (carry s) := by
  apply BitVec.eq_of_getLsbD_eq
  intro i hi
  obtain rfl : i = 0 := by omega
  simp [carryIn, carry]

/-- The model's masks and its table `SZ53` are the fields of a flag byte. -/
theorem resultFlags_eq_or_sz53 (r : Byte) (h pv n c : Bool) :
    resultFlags r h pv n c = flagIf c flagC ||| flagIf n flagN ||| flagIf h flagH ||| flagIf pv flagPV ||| sz53 r := by
  simp only [resultFlags, sz53_eq_flagByte, flagByte_eq_or, flagIf_false]
  ac_rfl

theorem par_eq_flagIf_evenParity (v : Byte) : par v = flagIf (evenParity v) flagPV := by
  rw [par, popcount_even_eq_evenParity]

/-! ### Fields of a flag byte -/

section Fields

variable (s z five h three pv n c : Bool)

theorem getLsbD_zero_flagByte : (flagByte s z five h three pv n c).getLsbD 0 = c := by
  revert s z five h three pv n c
  decide

theorem getLsbD_four_flagByte : (flagByte s z five h three pv n c).getLsbD 4 = h := by
  revert s z five h three pv n c
  decide

theorem flagByte_or_flagH :
    flagByte s z five h three pv n c ||| flagH = flagByte s z five true three pv n c := by
  revert s z five h three pv n c
  decide

/-- The mask 0xD7 clears bits 5 and 3. -/
theorem flagByte_and_documented :
    flagByte s z five h three pv n c &&& 0xD7 = flagByte s z false h false pv n c := by
  revert s z five h three pv n c
  decide

end Fields

/-! ### The statements' sum and difference as the word operations -/

theorem sum8_false (a b : Byte) : sum8 a b false = a + b := by simp [sum8, BitVec.ofNat_add]

theorem diff8_false (a b : Byte) : diff8 a b false = a - b := by
  rw [diff8, Bool.toNat_false, Nat.cast_zero, Int.sub_zero, Int.sub_eq_add_neg, BitVec.ofInt_add, BitVec.ofInt_neg,
    BitVec.ofInt_natCast, BitVec.ofInt_natCast, BitVec.ofNat_toNat, BitVec.ofNat_toNat, BitVec.setWidth_eq,
    BitVec.setWidth_eq, BitVec.sub_eq_add_neg]

/-- A difference is zero exactly between equal operands. -/
theorem diff8_beq_zero (a b : Byte) : (diff8 a b false == 0) = (a == b) := by
  rw [Bool.eq_iff_iff, beq_iff_eq, beq_iff_eq, diff8_false]
  exact sub_eq_zero

/-! ### The adder primitives (R71, R72) -/

section Adders

variable (a b : Byte) (c : Bool)

/-- The widened sum loses nothing. -/
theorem toNat_widened_sum :
    (a.setWidth 16 + b.setWidth 16 + (BitVec.ofBool c).setWidth 16 : Word).toNat = a.toNat + b.toNat + c.toNat := by
  have ha := a.isLt
  have hb := b.isLt
  have hc := c.toNat_le
  simp only [BitVec.toNat_add, BitVec.toNat_setWidth, BitVec.toNat_ofBool]
  omega

/-- The widened difference is the difference modulo 65536. -/
theorem toNat_widened_diff :
    ((a.setWidth 16 - b.setWidth 16 - (BitVec.ofBool c).setWidth 16 : Word).toNat : Int) =
      ((a.toNat : Int) - b.toNat - c.toNat) % 65536 := by
  have ha := a.isLt
  have hb := b.isLt
  have hc := c.toNat_le
  simp only [BitVec.toNat_sub, BitVec.toNat_setWidth, BitVec.toNat_ofBool]
  omega

theorem setWidth_widened_sum :
    (a.setWidth 16 + b.setWidth 16 + (BitVec.ofBool c).setWidth 16 : Word).setWidth 8 = sum8 a b c :=
  BitVec.eq_of_toNat_eq (by rw [BitVec.toNat_setWidth, toNat_widened_sum, sum8, BitVec.toNat_ofNat])

theorem setWidth_widened_diff :
    (a.setWidth 16 - b.setWidth 16 - (BitVec.ofBool c).setWidth 16 : Word).setWidth 8 = diff8 a b c := by
  have ht := toNat_widened_diff a b c
  refine BitVec.eq_of_toNat_eq ?_
  rw [BitVec.toNat_setWidth, diff8, BitVec.toNat_ofInt]
  omega

/-- Bit 8 of the widened sum is the carry out of bit 7. -/
theorem getLsbD_eight_widened_sum :
    (a.setWidth 16 + b.setWidth 16 + (BitVec.ofBool c).setWidth 16 : Word).getLsbD 8 =
      decide (255 < a.toNat + b.toNat + c.toNat) := by
  have ha := a.isLt
  have hb := b.isLt
  have hc := c.toNat_le
  rw [← BitVec.testBit_toNat, toNat_widened_sum, Nat.testBit_eq_decide_div_mod_eq, decide_eq_decide]
  omega

/-- Bit 8 of the widened difference is the borrow. -/
theorem getLsbD_eight_widened_diff :
    (a.setWidth 16 - b.setWidth 16 - (BitVec.ofBool c).setWidth 16 : Word).getLsbD 8 =
      decide (a.toNat < b.toNat + c.toNat) := by
  have ha := a.isLt
  have hb := b.isLt
  have hc := c.toNat_le
  have ht := toNat_widened_diff a b c
  rw [← BitVec.testBit_toNat, Nat.testBit_eq_decide_div_mod_eq, decide_eq_decide]
  omega

theorem add8_ofBool : add8 a b (BitVec.ofBool c) = ⟨sum8 a b c, sumFlags8 a b c⟩ := by
  simp only [add8, setWidth_widened_sum, getLsbD_eight_widened_sum, tableAt_hcAdd_sum8, tableAt_ovAdd_sum8, sumFlags8,
    resultFlags_eq_or_sz53, flagIf_false, BitVec.ofNat_eq_ofNat, BitVec.or_zero]

theorem sub8_ofBool : sub8 a b (BitVec.ofBool c) = ⟨diff8 a b c, diffFlags8 a b c⟩ := by
  simp only [sub8, setWidth_widened_diff, getLsbD_eight_widened_diff, tableAt_hcSub_diff8, tableAt_ovSub_diff8,
    diffFlags8, resultFlags_eq_or_sz53, flagIf_true]

end Adders

/-! ### Logic, comparison, increment and decrement (R79 to R84) -/

theorem sz53p_eq_resultFlags (v : Byte) : sz53p v = resultFlags v false (evenParity v) false false := by
  simp [sz53p, par_eq_flagIf_evenParity, resultFlags_eq_or_sz53, BitVec.or_comm]

theorem flagH_or_sz53p (v : Byte) : flagH ||| sz53p v = resultFlags v true (evenParity v) false false := by
  rw [BitVec.or_comm, sz53p_eq_resultFlags, resultFlags, flagByte_or_flagH, resultFlags]

/-- The widened difference is zero exactly between equal operands. -/
theorem widened_diff_beq_zero (a v : Byte) :
    (a.setWidth 16 - v.setWidth 16 - (BitVec.ofBool false).setWidth 16 == (0 : Word)) = (a == v) := by
  rw [Bool.eq_iff_iff, beq_iff_eq, beq_iff_eq, BitVec.ofBool_false]
  bv_omega

/-- A borrow excludes equality, so R82's choice between C and Z sets each by its own condition. -/
theorem borrow_or_zero (a v : Byte) :
    (if decide (a.toNat < v.toNat) = true then flagC else flagIf (a == v) flagZ) =
      flagIf (decide (a.toNat < v.toNat)) flagC ||| flagIf (a == v) flagZ := by
  by_cases hlt : a.toNat < v.toNat
  · have hne : (a == v) = false := beq_false_of_ne (by rintro rfl; omega)
    simp [hlt, hne]
  · simp [hlt]

theorem cpFlags_eq_flagByte (a v : Byte) :
    cpFlags a v = flagByte ((diff8 a v false).getLsbD 7) (a == v) (v.getLsbD 5) (decide (a.toNat % 16 < v.toNat % 16))
      (v.getLsbD 3) (overflows8 (a.toInt - v.toInt)) true (decide (a.toNat < v.toNat)) := by
  have hwide : a.setWidth 16 - v.setWidth 16 = a.setWidth 16 - v.setWidth 16 - (BitVec.ofBool false).setWidth 16 :=
    (BitVec.sub_zero _).symm
  unfold cpFlags
  rw [hwide]
  simp only [setWidth_widened_diff, getLsbD_eight_widened_diff, tableAt_hcSub_diff8, tableAt_ovSub_diff8,
    widened_diff_beq_zero, Bool.toNat_false, Nat.add_zero, Nat.cast_zero, Int.sub_zero, borrow_or_zero,
    BitVec.and_or_distrib_left, and_flag5, and_flag3, and_flagS, flagByte_eq_or, flagIf_true]
  ac_rfl

theorem and_low_nibble_beq_zero (v : Byte) : (v &&& 0x0F == 0) = (v.toNat % 16 == 0) := by
  rw [Bool.eq_iff_iff, beq_iff_eq, beq_iff_eq, ← BitVec.toNat_inj, BitVec.toNat_and]
  exact iff_of_eq (congrArg (· = 0) (Nat.and_two_pow_sub_one_eq_mod v.toNat 4))

theorem inc8_eq (f v : Byte) :
    inc8 f v = ⟨sum8 v 1 false, resultFlags (sum8 v 1 false) ((sum8 v 1 false).toNat % 16 == 0)
      (sum8 v 1 false == 0x80) false (f.getLsbD 0)⟩ := by
  have hres : v + 1 = sum8 v 1 false := (sum8_false v 1).symm
  simp only [inc8, hres, and_flagC, and_low_nibble_beq_zero, resultFlags_eq_or_sz53, flagIf_false]
  ac_rfl

theorem dec8_eq (f v : Byte) :
    dec8 f v = ⟨diff8 v 1 false, resultFlags (diff8 v 1 false) (v.toNat % 16 == 0)
      (diff8 v 1 false == 0x7F) true (f.getLsbD 0)⟩ := by
  have hres : v - 1 = diff8 v 1 false := (diff8_false v 1).symm
  simp only [dec8, hres, and_flagC, and_low_nibble_beq_zero, resultFlags_eq_or_sz53, flagIf_true]
  ac_rfl

/-! ### A register and `F` in one write -/

theorem putOut8_eq_withReg (r : Reg7) (o : Out8) (s : State) : putOut8 r o s = withReg s r o.res o.flags := by
  cases r <;> rfl

@[simp] theorem regValue_withReg_self (s : State) (r : Reg7) (v f : Byte) : regValue (withReg s r v f) r = v := by
  cases r <;> rfl

@[simp] theorem carry_withReg (s : State) (r : Reg7) (v f : Byte) : carry (withReg s r v f) = f.getLsbD 0 := by
  cases r <;> rfl

@[simp] theorem withReg_withReg (s : State) (r : Reg7) (v w f g : Byte) :
    withReg (withReg s r v f) r w g = withReg s r w g := by
  cases r <;> rfl

/-- Writing a register's own value changes `F` alone. -/
theorem withReg_regValue (s : State) (r : Reg7) (f : Byte) : withReg s r (regValue s r) f = { s with f := f } := by
  cases r <;> rfl

/-! ### The statements -/

/-- The rows of family 3 (30_encoding.md R48). -/
theorem encodes_aluOps (p : Params) (k : Fin 8) (r : Reg7) : Encodes p (56 + 7 * k.val + idxA r) (aluOps.get k r) :=
  encodes_of_opcodeRow fun _ => .alu k r

/-- Settles O25: ADD is ADD8 with no carry-in. -/
theorem addSetsSumAndFlags : Obligations.AddSetsSumAndFlags := by
  unfold Obligations.AddSetsSumAndFlags
  refine fun r s => ⟨encodes_aluOps _ 0 r, ?_⟩
  rw [exec_addOf, aluAdd, reg8_eq_regValue, ← BitVec.ofBool_false, add8_ofBool, putOut8_eq_withReg, withReg]

/-- Settles O26: ADC is ADD8 with the old C carried in. -/
theorem adcSetsSumAndFlags : Obligations.AdcSetsSumAndFlags := by
  unfold Obligations.AdcSetsSumAndFlags
  refine fun r s => ⟨encodes_aluOps _ 1 r, ?_⟩
  rw [exec_adcOf, aluAdc, reg8_eq_regValue, carryIn_eq_ofBool_carry, add8_ofBool, putOut8_eq_withReg, withReg]

/-- Settles O27: SUB is SUB8 with no borrow-in. -/
theorem subSetsDifferenceAndFlags : Obligations.SubSetsDifferenceAndFlags := by
  unfold Obligations.SubSetsDifferenceAndFlags
  refine fun r s => ⟨encodes_aluOps _ 2 r, ?_⟩
  rw [exec_subOf, aluSub, reg8_eq_regValue, ← BitVec.ofBool_false, sub8_ofBool, putOut8_eq_withReg, withReg]

/-- Settles O28: SBC is SUB8 with the old C borrowed in. -/
theorem sbcSetsDifferenceAndFlags : Obligations.SbcSetsDifferenceAndFlags := by
  unfold Obligations.SbcSetsDifferenceAndFlags
  refine fun r s => ⟨encodes_aluOps _ 3 r, ?_⟩
  rw [exec_sbcOf, aluSbc, reg8_eq_regValue, carryIn_eq_ofBool_carry, sub8_ofBool, putOut8_eq_withReg, withReg]

/-- Settles O29: XOR and OR take `SZ53P` of the result, and AND sets H beside it. -/
theorem logicalOperationsSetResultAndFlags : Obligations.LogicalOperationsSetResultAndFlags := by
  unfold Obligations.LogicalOperationsSetResultAndFlags
  refine fun r s => ⟨⟨encodes_aluOps _ 4 r, encodes_aluOps _ 5 r, encodes_aluOps _ 6 r⟩, ?_, ?_, ?_⟩
  · rw [exec_andOf, aluAnd, reg8_eq_regValue, and8, flagH_or_sz53p, putOut8_eq_withReg, withReg]
  · rw [exec_xorOf, aluXor, reg8_eq_regValue, xor8, sz53p_eq_resultFlags, putOut8_eq_withReg, withReg]
  · rw [exec_orOf, aluOr, reg8_eq_regValue, or8, sz53p_eq_resultFlags, putOut8_eq_withReg, withReg]

/-- Settles O30: CP writes `F` alone, with the flags of `cpFlags_eq_flagByte`. -/
theorem compareSetsFlagsOnly : Obligations.CompareSetsFlagsOnly := by
  unfold Obligations.CompareSetsFlagsOnly
  refine fun r s => ⟨encodes_aluOps _ 7 r, ?_⟩
  rw [exec_cpOf, aluCp, reg8_eq_regValue, cpFlags_eq_flagByte, setFlags]

/-- Settles O31: the opcode is a row of family 4, and the kept C is bit 0 of the old `F`. -/
theorem incrementSetsResultAndKeepsCarry : Obligations.IncrementSetsResultAndKeepsCarry := by
  unfold Obligations.IncrementSetsResultAndKeepsCarry
  refine fun r s => ⟨encodes_of_opcodeRow fun _ => .inc r, ?_⟩
  rw [exec_incOf, incReg, reg8_eq_regValue, inc8_eq, putOut8_eq_withReg, carry]

/-- Settles O32: the opcode is a row of family 5, and the kept C is bit 0 of the old `F`. -/
theorem decrementSetsResultAndKeepsCarry : Obligations.DecrementSetsResultAndKeepsCarry := by
  unfold Obligations.DecrementSetsResultAndKeepsCarry
  refine fun r s => ⟨encodes_of_opcodeRow fun _ => .dec r, ?_⟩
  rw [exec_decOf, decReg, reg8_eq_regValue, dec8_eq, putOut8_eq_withReg, carry]

/-- Settles O33: the mask removes bits 5 and 3, and CP's Z (equal operands) is SUB's (a zero difference). -/
theorem compareAgreesWithSubtract : Obligations.CompareAgreesWithSubtract := by
  unfold Obligations.CompareAgreesWithSubtract
  refine fun r s => ⟨_, _, (compareSetsFlagsOnly r s).2, (subSetsDifferenceAndFlags r s).2, rfl, ?_⟩
  have hzero : (diff8 s.a (regValue s r) false == 0) = (s.a == regValue s r) := diff8_beq_zero _ _
  simp only [diffFlags8, resultFlags, flagByte_and_documented, hzero, Bool.toNat_false, Nat.add_zero, Nat.cast_zero,
    Int.sub_zero]

/-- Settles O34: the second write to the register puts back its old value, and both keep C. -/
theorem decrementUndoesIncrement : Obligations.DecrementUndoesIncrement := by
  unfold Obligations.DecrementUndoesIncrement
  refine fun r s =>
    ⟨_, _, (incrementSetsResultAndKeepsCarry r s).2, (decrementSetsResultAndKeepsCarry r _).2, ?_, ?_, ?_⟩
  · have hback : diff8 (sum8 (regValue s r) 1 false) 1 false = regValue s r := by
      rw [sum8_false, diff8_false, BitVec.add_sub_cancel]
    simp only [regValue_withReg_self, withReg_withReg, hback, withReg_regValue]
  · rw [carry_withReg, resultFlags, getLsbD_zero_flagByte]
  · simp only [carry_withReg, resultFlags, getLsbD_zero_flagByte]

/-- Settles O35: both results are A itself, and H is the one field in which the two flag bytes differ. -/
theorem orAndAndOfAccumulatorDifferInHalfCarry : Obligations.OrAndAndOfAccumulatorDifferInHalfCarry := by
  unfold Obligations.OrAndAndOfAccumulatorDifferInHalfCarry
  intro s
  obtain ⟨-, hand, -, hor⟩ := logicalOperationsSetResultAndFlags .a s
  refine ⟨_, hor, hand.trans ?_, ?_, ?_⟩
  · simp only [regValue, BitVec.and_self, BitVec.or_self]
    rw [resultFlags, resultFlags, ← flagByte_or_flagH]
    rfl
  · exact BitVec.or_self
  · exact getLsbD_four_flagByte ..

end Sys2Proof.Machine
end

section
/-! Miscellaneous operations (43_misc.md). The rotates of A shift a 9-bit ring of C and A; DAA's tests on the binary sum or
difference of two decimal bytes are the decimal carries of their digits. -/

namespace Sys2Proof.Machine

open Sys2Proof.Claims

/-! ### The opcodes -/

/-- The rows of family 6 (30_encoding.md R48). -/
theorem encodes_miscOps (p : Params) (k : Fin 10) : Encodes p (126 + k.val) (miscOps.get k) :=
  encodes_of_opcodeRow fun _ => .misc k

/-! ### Masks and fields of `F` -/

theorem and_flagN (v : Byte) : v &&& flagN = flagIf (v.getLsbD 1) flagN := BitVec.and_twoPow v 1
theorem and_flagPV (v : Byte) : v &&& flagPV = flagIf (v.getLsbD 2) flagPV := BitVec.and_twoPow v 2
theorem and_flagH (v : Byte) : v &&& flagH = flagIf (v.getLsbD 4) flagH := BitVec.and_twoPow v 4
theorem and_flagZ (v : Byte) : v &&& flagZ = flagIf (v.getLsbD 6) flagZ := BitVec.and_twoPow v 6

/-- The mask `KEEP_SZP`. -/
theorem and_keepSZP (v : Byte) :
    v &&& keepSZP = flagIf (v.getLsbD 7) flagS ||| flagIf (v.getLsbD 6) flagZ ||| flagIf (v.getLsbD 2) flagPV := by
  simp only [keepSZP, BitVec.and_or_distrib_left, and_flagS, and_flagZ, and_flagPV]

/-- Bits 5 and 3 of a result or operand. -/
theorem and_flag5_or_flag3 (v : Byte) :
    v &&& (flag5 ||| flag3) = flagIf (v.getLsbD 5) flag5 ||| flagIf (v.getLsbD 3) flag3 := by
  rw [BitVec.and_or_distrib_left, and_flag5, and_flag3]

@[simp] theorem flagIf_bne_zero_flagC (c : Bool) : (flagIf c flagC != 0) = c := by cases c <;> rfl
@[simp] theorem flagIf_bne_zero_flagN (c : Bool) : (flagIf c flagN != 0) = c := by cases c <;> rfl
@[simp] theorem flagIf_bne_zero_flagH (c : Bool) : (flagIf c flagH != 0) = c := by cases c <;> rfl

@[simp] theorem carryByte_ofBool (c : Bool) : carryByte (BitVec.ofBool c) = flagIf c flagC := by cases c <;> rfl

theorem getLsbD_one_flagByte (s z five h three pv n c : Bool) :
    (flagByte s z five h three pv n c).getLsbD 1 = n := by
  revert s z five h three pv n c
  decide

/-- The mask of DAA clears C and P/V. -/
theorem flagByte_and_not_flagC_flagPV (s z five h three pv n c : Bool) :
    flagByte s z five h three pv n c &&& ~~~(flagC ||| flagPV) = flagByte s z five h three false n false := by
  revert s z five h three pv n c
  decide

/-! ### The accumulator rotates (R85 to R88) -/

theorem extractLsb'_one_eq_ofBool {w : Nat} (v : BitVec w) (i : Nat) : v.extractLsb' i 1 = BitVec.ofBool (v.getLsbD i) := by
  rw [← BitVec.setWidth_eq (v.extractLsb' i 1), BitVec.setWidth_one]
  simp

theorem rotateAFlags_ofBool (s : State) (v : Byte) (c : Bool) :
    rotateAFlags s.f v (BitVec.ofBool c) = rotatedAFlags s v c := by
  simp only [rotateAFlags, rotatedAFlags, and_keepSZP, and_flag5_or_flag3, carryByte_ofBool, flagByte_eq_or, flagIf_false]
  ac_rfl

theorem rotateA_eq_withReg {out : Byte → Byte × BitVec 1} {s : State} {v : Byte} {c : Bool}
    (h : out s.a = (v, BitVec.ofBool c)) : rotateA out s = withReg s .a v (rotatedAFlags s v c) := by
  rw [rotateA, h, putOut8_eq_withReg, rotateAFlags_ofBool]

/-- Rotating left through the carry: C enters at bit 0. -/
theorem shiftLeft_or_carryByte (v : Byte) (c : Bool) : v <<< 1 ||| carryByte (BitVec.ofBool c) = v.shiftConcat c := by
  apply BitVec.eq_of_getLsbD_eq
  intro i hi
  rw [BitVec.getLsbD_or, carryByte_ofBool, getLsbD_flagIf, BitVec.getLsbD_shiftConcat]
  match i with
  | 0 | 1 | 2 | 3 | 4 | 5 | 6 | 7 => simp [flagC]

/-- Rotating right through the carry: C enters at bit 7. -/
theorem shiftRight_or_carryByte (v : Byte) (c : Bool) :
    v >>> 1 ||| carryByte (BitVec.ofBool c) <<< 7 = (BitVec.cons c v).extractLsb' 1 8 := by
  apply BitVec.eq_of_getLsbD_eq
  intro i hi
  rw [BitVec.getLsbD_or, carryByte_ofBool, BitVec.getLsbD_shiftLeft, getLsbD_flagIf, BitVec.getLsbD_extractLsb',
    BitVec.getLsbD_cons]
  match i with
  | 0 | 1 | 2 | 3 | 4 | 5 | 6 | 7 => simp [flagC]

theorem ofNat_double_add (v : Byte) (c : Bool) : BitVec.ofNat 8 (2 * v.toNat + c.toNat) = v.shiftConcat c :=
  BitVec.eq_of_toNat_eq (by rw [BitVec.toNat_ofNat, BitVec.toNat_shiftConcat, Nat.shiftLeft_eq, Nat.pow_one, Nat.mul_comm])

theorem ofNat_half_add (v : Byte) (c : Bool) :
    BitVec.ofNat 8 (v.toNat / 2 + 128 * c.toNat) = (BitVec.cons c v).extractLsb' 1 8 := by
  refine BitVec.eq_of_toNat_eq ?_
  rw [BitVec.toNat_ofNat, BitVec.extractLsb'_toNat, BitVec.toNat_cons', Nat.shiftLeft_eq, Nat.shiftRight_eq_div_pow]
  omega

theorem rlcaOut_eq (v : Byte) : rlcaOut v = (v.rotateLeft 1, BitVec.ofBool (v.getLsbD 7)) := by
  rw [rlcaOut, extractLsb'_one_eq_ofBool]
  rfl

theorem rrcaOut_eq (v : Byte) : rrcaOut v = (v.rotateRight 1, BitVec.ofBool (v.getLsbD 0)) := by
  rw [rrcaOut, extractLsb'_one_eq_ofBool]
  rfl

theorem rlaOut_carryIn (s : State) :
    rlaOut (carryIn s) s.a = (s.a.shiftConcat (carry s), BitVec.ofBool (s.a.getLsbD 7)) := by
  rw [rlaOut, carryIn_eq_ofBool_carry, shiftLeft_or_carryByte, extractLsb'_one_eq_ofBool]

theorem rraOut_carryIn (s : State) :
    rraOut (carryIn s) s.a = ((BitVec.cons (carry s) s.a).extractLsb' 1 8, BitVec.ofBool (s.a.getLsbD 0)) := by
  rw [rraOut, carryIn_eq_ofBool_carry, shiftRight_or_carryByte, extractLsb'_one_eq_ofBool]

/-! ### Nine rotates through the carry (R88) -/

/-- The 9-bit ring that RLA and RRA rotate: C above A. -/
def carryRing (s : State) : BitVec 9 := BitVec.cons (carry s) s.a

theorem carryRing_withReg_rotatedAFlags (s : State) (v : Byte) (c : Bool) :
    carryRing (withReg s .a v (rotatedAFlags s v c)) = BitVec.cons c v := by
  rw [carryRing, carry_withReg, rotatedAFlags, getLsbD_zero_flagByte, withReg]

theorem carryRing_rla (s : State) : carryRing (rotateA (rlaOut (carryIn s)) s) = (carryRing s).rotateLeft 1 := by
  rw [rotateA_eq_withReg (rlaOut_carryIn s), carryRing_withReg_rotatedAFlags, carryRing]
  apply BitVec.eq_of_getLsbD_eq
  intro i hi
  rw [BitVec.getLsbD_cons, BitVec.getLsbD_shiftConcat, BitVec.getLsbD_rotateLeft, BitVec.getLsbD_cons, BitVec.getLsbD_cons]
  match i with
  | 0 | 1 | 2 | 3 | 4 | 5 | 6 | 7 | 8 => simp

theorem carryRing_rra (s : State) : carryRing (rotateA (rraOut (carryIn s)) s) = (carryRing s).rotateRight 1 := by
  rw [rotateA_eq_withReg (rraOut_carryIn s), carryRing_withReg_rotatedAFlags, carryRing]
  apply BitVec.eq_of_getLsbD_eq
  intro i hi
  rw [BitVec.getLsbD_cons, BitVec.getLsbD_extractLsb', BitVec.getLsbD_rotateRight, BitVec.getLsbD_cons,
    BitVec.getLsbD_cons]
  match i with
  | 0 | 1 | 2 | 3 | 4 | 5 | 6 | 7 | 8 => simp

theorem rotateLeft_iterate_nine (x : BitVec 9) : (·.rotateLeft 1)^[9] x = x := by
  apply BitVec.eq_of_getLsbD_eq
  intro i hi
  match i with
  | 0 | 1 | 2 | 3 | 4 | 5 | 6 | 7 | 8 => simp

theorem rotateRight_iterate_nine (x : BitVec 9) : (·.rotateRight 1)^[9] x = x := by
  apply BitVec.eq_of_getLsbD_eq
  intro i hi
  match i with
  | 0 | 1 | 2 | 3 | 4 | 5 | 6 | 7 | 8 => simp

theorem repeated_of_performs {i : Instr} {op : State → State} (h : Performs i op) (n : Nat) (s : State) :
    repeated i n s = some (op^[n] s) := by
  induction n generalizing s with
  | zero => rfl
  | succ n ih => rw [repeated, exec_of_performs h, Function.iterate_succ_apply, ← ih]

/-- However often A is rotated, A and F are all that changes. -/
theorem iterate_rotateA_eq_withReg (out : State → Byte → Byte × BitVec 1) (n : Nat) (s : State) :
    ∃ v f, (fun s => rotateA (out s) s)^[n] s = withReg s .a v f := by
  induction n with
  | zero => exact ⟨s.a, s.f, rfl⟩
  | succ n ih =>
    obtain ⟨v, f, h⟩ := ih
    rw [Function.iterate_succ_apply', h]
    exact ⟨_, _, by rw [rotateA, putOut8_eq_withReg, withReg_withReg]⟩

/-- Nine performances of an operation that rotates A through the carry, in a direction `turn` of the ring. -/
theorem repeated_nine_restores {i : Instr} {out : State → Byte → Byte × BitVec 1} {turn : BitVec 9 → BitVec 9}
    (hi : Performs i fun s => rotateA (out s) s)
    (hring : ∀ s, carryRing (rotateA (out s) s) = turn (carryRing s)) (hturn : ∀ x, turn^[9] x = x) (s : State) :
    ∃ t, repeated i 9 s = some t ∧ t = { s with f := t.f } ∧ carry t = carry s := by
  obtain ⟨v, f, ht⟩ := iterate_rotateA_eq_withReg out 9 s
  have hsame : carryRing (withReg s .a v f) = carryRing s := by
    rw [← ht, Function.Semiconj.iterate_right hring 9 s, hturn]
  have hcarry : carry (withReg s .a v f) = carry s := by
    simpa only [carryRing, BitVec.msb_cons] using congrArg BitVec.msb hsame
  have ha : v = s.a := by
    simpa only [carryRing, BitVec.setWidth_cons, withReg] using congrArg (BitVec.setWidth 8) hsame
  refine ⟨_, (repeated_of_performs hi 9 s).trans (congrArg some ht), ?_, hcarry⟩
  rw [ha]
  rfl

/-! ### DAA (R89) -/

/-- The low digit is adjusted. -/
def daaLow (a f : Byte) : Bool := f.getLsbD 4 || decide (9 < a.toNat % 16)

/-- The high digit is adjusted; this is also the new C. -/
def daaHigh (a f : Byte) : Bool := f.getLsbD 0 || decide (0x99 < a.toNat)

/-- The adjustment as a sum of its two parts. -/
def daaAmount (a f : Byte) : Byte := BitVec.ofNat 8 (6 * (daaLow a f).toNat + 96 * (daaHigh a f).toNat)

theorem decide_lt_and_low_nibble (v : Byte) : decide (9 < v &&& 0x0F) = decide (9 < v.toNat % 16) := by
  rw [decide_eq_decide, BitVec.lt_def, BitVec.toNat_and]
  exact iff_of_eq (congrArg (9 < ·) (Nat.and_two_pow_sub_one_eq_mod v.toNat 4))

/-- The two parts share no bit, so their or is their sum. -/
theorem daaAdjust_eq_daaAmount (a f : Byte) : daaAdjust a f = daaAmount a f := by
  have hdigits : ∀ low high : Bool,
      flagIf low 0x06 ||| flagIf high 0x60 = BitVec.ofNat 8 (6 * low.toNat + 96 * high.toNat) := by decide
  rw [daaAdjust, and_flagH, and_flagC, flagIf_bne_zero_flagH, flagIf_bne_zero_flagC, decide_lt_and_low_nibble, hdigits]
  rfl

theorem daa_carry_eq_daaHigh (a f : Byte) : (if 0x99 < a then flagC else f &&& flagC) = flagIf (daaHigh a f) flagC := by
  have hlt : 0x99 < a ↔ 0x99 < a.toNat := BitVec.lt_def
  by_cases h : 0x99 < a.toNat
  · rw [if_pos (hlt.2 h), daaHigh, decide_eq_true h, Bool.or_true, flagIf_true]
  · rw [if_neg (h ∘ hlt.1), daaHigh, decide_eq_false h, Bool.or_false, and_flagC]

/-- DAA puts its own C and P/V in place of the adder's. -/
theorem resultFlags_replace_carry_parity (r : Byte) (h pv n c high even : Bool) :
    (resultFlags r h pv n c &&& ~~~(flagC ||| flagPV)) ||| flagIf high flagC ||| flagIf even flagPV =
      resultFlags r h even n high := by
  rw [resultFlags, resultFlags, flagByte_and_not_flagC_flagPV]
  simp only [flagByte_eq_or, flagIf_false]
  ac_rfl

theorem sub8_zero (a b : Byte) : sub8 a b 0 = ⟨diff8 a b false, diffFlags8 a b false⟩ := sub8_ofBool a b false

theorem add8_zero (a b : Byte) : add8 a b 0 = ⟨sum8 a b false, sumFlags8 a b false⟩ := add8_ofBool a b false

theorem daa8_of_subtracting (a : Byte) {f : Byte} (hn : f.getLsbD 1 = true) :
    daa8 a f = ⟨diff8 a (daaAmount a f) false, resultFlags (diff8 a (daaAmount a f) false)
      (decide (a.toNat % 16 < (daaAmount a f).toNat % 16)) (evenParity (diff8 a (daaAmount a f) false)) true
      (daaHigh a f)⟩ := by
  simp only [daa8, and_flagN, flagIf_bne_zero_flagN, hn, if_true, daaAdjust_eq_daaAmount, daa_carry_eq_daaHigh,
    sub8_zero, diffFlags8, par_eq_flagIf_evenParity, resultFlags_replace_carry_parity, Bool.toNat_false, Nat.add_zero]

theorem daa8_of_adding (a : Byte) {f : Byte} (hn : f.getLsbD 1 = false) :
    daa8 a f = ⟨sum8 a (daaAmount a f) false, resultFlags (sum8 a (daaAmount a f) false)
      (decide (15 < a.toNat % 16 + (daaAmount a f).toNat % 16)) (evenParity (sum8 a (daaAmount a f) false)) false
      (daaHigh a f)⟩ := by
  simp only [daa8, and_flagN, flagIf_bne_zero_flagN, hn, if_false, daaAdjust_eq_daaAmount, daa_carry_eq_daaHigh,
    add8_zero, sumFlags8, par_eq_flagIf_evenParity, resultFlags_replace_carry_parity, Bool.toNat_false, Nat.add_zero,
    Bool.false_eq_true]

/-! ### Decimal sums and differences -/

theorem toNat_decide_eq_ite (p : Prop) [Decidable p] : (decide p).toNat = if p then 1 else 0 :=
  apply_ite Bool.toNat p true false

section Decimal

variable {x y : Nat}

theorem toNat_bcd (hx : x < 100) : (bcd x).toNat = 16 * (x / 10) + x % 10 := by
  rw [bcd, BitVec.toNat_ofNat]
  omega

variable (hx : x < 100) (hy : y < 100) (c : Bool)
include hx hy

theorem daaLow_decimal_sum :
    daaLow (sum8 (bcd x) (bcd y) c) (sumFlags8 (bcd x) (bcd y) c) = decide (10 ≤ x % 10 + y % 10 + c.toNat) := by
  have hc := c.toNat_le
  rw [daaLow, sumFlags8, resultFlags, getLsbD_four_flagByte, sum8, BitVec.toNat_ofNat, toNat_bcd hx, toNat_bcd hy,
    ← Bool.decide_or, decide_eq_decide]
  omega

/-- The carry and the test of the wrapped sum amount to the test of the exact sum, whose digits then carry in decimal. -/
theorem daaHigh_decimal_sum :
    daaHigh (sum8 (bcd x) (bcd y) c) (sumFlags8 (bcd x) (bcd y) c) = decide (100 ≤ x + y + c.toNat) := by
  have hc := c.toNat_le
  have hexact : ∀ n, 255 < n ∨ 0x99 < n % 2 ^ 8 ↔ 0x99 < n := by omega
  rw [daaHigh, sumFlags8, resultFlags, getLsbD_zero_flagByte, sum8, BitVec.toNat_ofNat, toNat_bcd hx, toNat_bcd hy,
    ← Bool.decide_or, decide_eq_decide, hexact]
  omega

/-- Adding 6 to a digit that passes 9 makes it carry in binary as it does in decimal. -/
theorem daa8_decimal_sum :
    (daa8 (sum8 (bcd x) (bcd y) c) (sumFlags8 (bcd x) (bcd y) c)).res = bcd ((x + y + c.toNat) % 100) ∧
      (daa8 (sum8 (bcd x) (bcd y) c) (sumFlags8 (bcd x) (bcd y) c)).flags.getLsbD 0 = decide (100 ≤ x + y + c.toNat) := by
  have hc := c.toNat_le
  have hn : (sumFlags8 (bcd x) (bcd y) c).getLsbD 1 = false := getLsbD_one_flagByte ..
  rw [daa8_of_adding _ hn, daaAmount, daaLow_decimal_sum hx hy, daaHigh_decimal_sum hx hy]
  refine ⟨BitVec.eq_of_toNat_eq ?_, getLsbD_zero_flagByte ..⟩
  rw [toNat_bcd (Nat.mod_lt _ (by omega)), sum8, sum8]
  simp only [BitVec.toNat_ofNat, toNat_bcd hx, toNat_bcd hy, toNat_decide_eq_ite, Bool.toNat_false]
  split_ifs <;> omega

theorem toNat_diff8_bcd :
    ((diff8 (bcd x) (bcd y) false).toNat : Int) = (16 * (x / 10) + x % 10 - (16 * (y / 10) + y % 10)) % 256 := by
  rw [diff8, BitVec.toNat_ofInt, toNat_bcd hx, toNat_bcd hy, Bool.toNat_false]
  omega

theorem daaLow_decimal_diff :
    daaLow (diff8 (bcd x) (bcd y) false) (diffFlags8 (bcd x) (bcd y) false) = decide (x % 10 < y % 10) := by
  have hd := toNat_diff8_bcd hx hy
  rw [daaLow, diffFlags8, resultFlags, getLsbD_four_flagByte, toNat_bcd hx, toNat_bcd hy, ← Bool.decide_or,
    decide_eq_decide, Bool.toNat_false]
  omega

/-- A difference that does not borrow is at most 0x99. -/
theorem daaHigh_decimal_diff :
    daaHigh (diff8 (bcd x) (bcd y) false) (diffFlags8 (bcd x) (bcd y) false) = decide (x < y) := by
  have hd := toNat_diff8_bcd hx hy
  rw [daaHigh, diffFlags8, resultFlags, getLsbD_zero_flagByte, toNat_bcd hx, toNat_bcd hy, ← Bool.decide_or,
    decide_eq_decide, Bool.toNat_false, Nat.add_zero]
  by_cases hxy : x < y
  · omega
  · rw [Int.emod_eq_of_lt (by omega) (by omega)] at hd
    omega

/-- Taking 6 from a digit that borrowed makes it lend 10 and not 16. -/
theorem daa8_decimal_diff :
    (daa8 (diff8 (bcd x) (bcd y) false) (diffFlags8 (bcd x) (bcd y) false)).res = bcd ((x + 100 - y) % 100) ∧
      (daa8 (diff8 (bcd x) (bcd y) false) (diffFlags8 (bcd x) (bcd y) false)).flags.getLsbD 0 = decide (x < y) := by
  have hd := toNat_diff8_bcd hx hy
  have hn : (diffFlags8 (bcd x) (bcd y) false).getLsbD 1 = true := getLsbD_one_flagByte ..
  rw [daa8_of_subtracting _ hn, daaAmount, daaLow_decimal_diff hx hy, daaHigh_decimal_diff hx hy]
  refine ⟨BitVec.eq_of_toNat_eq ?_, getLsbD_zero_flagByte ..⟩
  rw [toNat_bcd (Nat.mod_lt _ (by omega)), diff8_false, BitVec.toNat_sub, BitVec.toNat_ofNat, toNat_decide_eq_ite,
    toNat_decide_eq_ite]
  split_ifs <;> omega

theorem exec_daa_of_decimal_sum (s : State) :
    ∃ u, exec .daa { s with a := sum8 (bcd x) (bcd y) c, f := sumFlags8 (bcd x) (bcd y) c } = .next u ∧
      u.a = bcd ((x + y + c.toNat) % 100) ∧ carry u = decide (100 ≤ x + y + c.toNat) :=
  ⟨_, exec_of_performs .daa _, daa8_decimal_sum hx hy c⟩

theorem exec_daa_of_decimal_diff (s : State) :
    ∃ u, exec .daa { s with a := diff8 (bcd x) (bcd y) false, f := diffFlags8 (bcd x) (bcd y) false } = .next u ∧
      u.a = bcd ((x + 100 - y) % 100) ∧ carry u = decide (x < y) :=
  ⟨_, exec_of_performs .daa _, daa8_decimal_diff hx hy⟩

end Decimal

/-! ### CPL, SCF, CCF and NEG (R90 to R93) -/

theorem xor_ones_eq_ofNat (v : Byte) : v ^^^ 0xFF = BitVec.ofNat 8 (255 - v.toNat) := by
  refine BitVec.eq_of_toNat_eq ?_
  rw [show (0xFF : Byte) = BitVec.allOnes 8 from rfl, BitVec.xor_allOnes, BitVec.toNat_not, BitVec.toNat_ofNat]
  omega

theorem cplFlags_eq_flagByte (f v : Byte) :
    cplFlags f v = flagByte (f.getLsbD 7) (f.getLsbD 6) (v.getLsbD 5) true (v.getLsbD 3) (f.getLsbD 2) true
      (f.getLsbD 0) := by
  simp only [cplFlags, BitVec.and_or_distrib_left, and_flagC, and_flagPV, and_flagZ, and_flagS, and_flag5, and_flag3,
    flagByte_eq_or, flagIf_true]
  ac_rfl

theorem scfFlags_eq_flagByte (f a : Byte) :
    scfFlags f a = flagByte (f.getLsbD 7) (f.getLsbD 6) (a.getLsbD 5) false (a.getLsbD 3) (f.getLsbD 2) false true := by
  simp only [scfFlags, and_keepSZP, and_flag5_or_flag3, flagByte_eq_or, flagIf_true, flagIf_false]
  ac_rfl

/-- The old C goes to H and its complement to C. -/
theorem ccfFlags_eq_flagByte (f a : Byte) :
    ccfFlags f a = flagByte (f.getLsbD 7) (f.getLsbD 6) (a.getLsbD 5) (f.getLsbD 0) (a.getLsbD 3) (f.getLsbD 2) false
      (!f.getLsbD 0) := by
  have hcarry : ∀ c : Bool, (if c = true then flagH else flagC) = flagIf c flagH ||| flagIf (!c) flagC := by decide
  simp only [ccfFlags, and_keepSZP, and_flag5_or_flag3, and_flagC, flagIf_bne_zero_flagC, hcarry, flagByte_eq_or,
    flagIf_false]
  ac_rfl

theorem diff8_zero_left (v : Byte) : diff8 0 v false = BitVec.ofInt 8 (-(v.toNat : Int)) := by
  simp [diff8]

/-- Only -128 has no negation in the signed range. -/
theorem overflows8_zero_sub (v : Byte) : overflows8 (0 - v.toInt) = (v == 0x80) := by
  rw [overflows8, Bool.eq_iff_iff, decide_eq_true_iff, beq_iff_eq, ← BitVec.toInt_inj]
  have hlow := BitVec.le_toInt v
  have hhigh := BitVec.toInt_lt (x := v)
  have hmin : (0x80 : Byte).toInt = -128 := rfl
  omega

theorem diffFlags8_zero_left (v : Byte) :
    diffFlags8 0 v false = resultFlags (BitVec.ofInt 8 (-(v.toNat : Int))) (decide (v.toNat % 16 ≠ 0)) (v == 0x80) true
      (decide (v ≠ 0)) := by
  have hhalf : (0 < v.toNat % 16) = (v.toNat % 16 ≠ 0) := propext Nat.pos_iff_ne_zero
  have hborrow : (0 < v.toNat) = (v ≠ 0) := propext (Nat.pos_iff_ne_zero.trans (BitVec.toNat_ne_iff_ne (y := (0 : Byte))))
  rw [diffFlags8, diff8_zero_left]
  simp only [BitVec.ofNat_eq_ofNat, Bool.toNat_false, Nat.add_zero, Nat.cast_zero, Int.sub_zero,
    BitVec.toNat_zero, BitVec.toInt_zero, Nat.zero_mod, overflows8_zero_sub, hhalf, hborrow]

/-! ### The statements -/

/-- Settles O36: each rotate's new value and bit rotated out, with the flags of `rotateAFlags_ofBool`. -/
theorem accumulatorRotates : Obligations.AccumulatorRotates := by
  unfold Obligations.AccumulatorRotates
  refine fun s => ⟨⟨encodes_miscOps _ 0, encodes_miscOps _ 1, encodes_miscOps _ 2, encodes_miscOps _ 3⟩, ?_, ?_, ?_, ?_⟩
  · rw [exec_of_performs .rlca, rotateA_eq_withReg (rlcaOut_eq s.a), withReg]
  · rw [exec_of_performs .rrca, rotateA_eq_withReg (rrcaOut_eq s.a), withReg]
  · rw [exec_of_performs .rla, rotateA_eq_withReg (rlaOut_carryIn s), ofNat_double_add, withReg]
  · rw [exec_of_performs .rra, rotateA_eq_withReg (rraOut_carryIn s), ofNat_half_add, withReg]

/-- Settles O37: RLA and RRA turn the 9-bit ring of C and A by one place. -/
theorem nineRotatesThroughCarryRestore : Obligations.NineRotatesThroughCarryRestore := by
  unfold Obligations.NineRotatesThroughCarryRestore
  rintro s i (rfl | rfl)
  · exact repeated_nine_restores .rla carryRing_rla rotateLeft_iterate_nine s
  · exact repeated_nine_restores .rra carryRing_rra rotateRight_iterate_nine s

/-- Settles O38: N chooses the adder primitive, and DAA replaces its C and P/V. -/
theorem decimalAdjustFollowsTheCorrectionSteps : Obligations.DecimalAdjustFollowsTheCorrectionSteps := by
  unfold Obligations.DecimalAdjustFollowsTheCorrectionSteps
  refine fun s => ⟨encodes_miscOps _ 4, ?_⟩
  rw [exec_of_performs .daa, decimalAdjust, putOut8_eq_withReg]
  cases hn : s.f.getLsbD 1
  · rw [daa8_of_adding _ hn]
    rfl
  · rw [daa8_of_subtracting _ hn]
    rfl

/-- Settles O39: the flags ADD and ADC leave tell DAA which digits carried. -/
theorem decimalAdditionByAdjust : Obligations.DecimalAdditionByAdjust := by
  unfold Obligations.DecimalAdditionByAdjust
  intro x y r s hx hy
  have hadd := (addSetsSumAndFlags r s).2
  have hadc := (adcSetsSumAndFlags r s).2
  rw [hx, hy] at hadd hadc
  obtain ⟨u, hu⟩ := exec_daa_of_decimal_sum x.isLt y.isLt false s
  obtain ⟨w, hw⟩ := exec_daa_of_decimal_sum x.isLt y.isLt (carry s) s
  rw [Bool.toNat_false, Nat.add_zero] at hu
  exact ⟨⟨_, u, hadd, hu⟩, ⟨_, w, hadc, hw⟩⟩

/-- Settles O40: the flags SUB leaves tell DAA which digits borrowed. -/
theorem decimalSubtractionByAdjust : Obligations.DecimalSubtractionByAdjust := by
  unfold Obligations.DecimalSubtractionByAdjust
  intro x y r s hx hy
  have hsub := (subSetsDifferenceAndFlags r s).2
  rw [hx, hy] at hsub
  obtain ⟨u, hu⟩ := exec_daa_of_decimal_diff x.isLt y.isLt s
  exact ⟨_, u, hsub, hu⟩

/-- Settles O41: the flag formulas of CPL, SCF and CCF field by field. -/
theorem complementCarryAndNoOperation : Obligations.ComplementCarryAndNoOperation := by
  unfold Obligations.ComplementCarryAndNoOperation
  refine fun s => ⟨⟨encodes_miscOps _ 5, encodes_miscOps _ 6, encodes_miscOps _ 7, encodes_miscOps _ 9⟩, ?_, ?_, ?_, ?_⟩
  · rw [exec_of_performs .cpl, complementA, xor_ones_eq_ofNat, putOut8_eq_withReg, cplFlags_eq_flagByte, withReg, carry]
  · rw [exec_of_performs .scf, setCarry, scfFlags_eq_flagByte, setFlags]
  · rw [exec_of_performs .ccf, complementCarry, ccfFlags_eq_flagByte, setFlags, carry]
  · exact exec_of_performs .nop s

/-- Settles O42: NEG is SUB8 from zero. -/
theorem negateIsZeroMinusAccumulator : Obligations.NegateIsZeroMinusAccumulator := by
  unfold Obligations.NegateIsZeroMinusAccumulator
  refine fun s => ⟨encodes_miscOps _ 8, ?_⟩
  rw [exec_of_performs .neg, negateA, sub8_zero, putOut8_eq_withReg, diff8_zero_left, diffFlags8_zero_left, withReg]

end Sys2Proof.Machine
end

section
/-! CB operations (44_cb.md). Each shift is a rotate through the carry with another bit in place of C (zero, one or the
sign), so the arithmetic of RL and RR gives all of them; BIT, RES and SET look at or change one bit. -/

namespace Sys2Proof.Machine

open Sys2Proof.Claims

/-! ### The opcodes (30_encoding.md R48) -/

/-- The rows of family 7. -/
theorem encodes_rotOps (p : Params) (k : Fin 7) (r : Reg7) : Encodes p (136 + 7 * k.val + idxR r) (rotOps.get k r) :=
  encodes_of_opcodeRow fun _ => .rot k r

/-- The rows of family 9. -/
theorem encodes_bitOps (p : Params) (k : Fin 3) (b : Fin 8) (r : Reg7) :
    Encodes p (192 + 56 * k.val + 7 * b.val + idxR r) (bitOps.get k b r) :=
  encodes_of_opcodeRow fun _ => .bitop k b r

/-! ### Rotates and shifts (R95 to R102) -/

theorem shiftFlags_ofBool (w : Byte) (c : Bool) : shiftFlags w (BitVec.ofBool c) = shiftedFlags w c := by
  simp only [shiftFlags, shiftedFlags, carryByte_ofBool, sz53p, par_eq_flagIf_evenParity, resultFlags_eq_or_sz53,
    flagIf_false]
  ac_rfl

theorem rotateReg_eq_withReg {out : Byte → Out8} {r : Reg7} {s : State} {w f : Byte}
    (h : out (regValue s r) = ⟨w, f⟩) : rotateReg out r s = withReg s r w f := by
  rw [rotateReg, reg8_eq_regValue, h, putOut8_eq_withReg]

section Transforms

variable (v : Byte) (c : Bool)

theorem rlcOut_eq : rlcOut v = ⟨v.rotateLeft 1, shiftedFlags (v.rotateLeft 1) (v.getLsbD 7)⟩ := by
  rw [rlcOut, extractLsb'_one_eq_ofBool, ← shiftFlags_ofBool]
  rfl

theorem rrcOut_eq : rrcOut v = ⟨v.rotateRight 1, shiftedFlags (v.rotateRight 1) (v.getLsbD 0)⟩ := by
  rw [rrcOut, extractLsb'_one_eq_ofBool, ← shiftFlags_ofBool]
  rfl

theorem rlOut_ofBool {w : Byte} (hw : BitVec.ofNat 8 (2 * v.toNat + c.toNat) = w) :
    rlOut (BitVec.ofBool c) v = ⟨w, shiftedFlags w (v.getLsbD 7)⟩ := by
  rw [rlOut, shiftLeft_or_carryByte, ← ofNat_double_add, hw, extractLsb'_one_eq_ofBool, shiftFlags_ofBool]

theorem rrOut_ofBool {w : Byte} (hw : BitVec.ofNat 8 (v.toNat / 2 + 128 * c.toNat) = w) :
    rrOut (BitVec.ofBool c) v = ⟨w, shiftedFlags w (v.getLsbD 0)⟩ := by
  rw [rrOut, shiftRight_or_carryByte, ← ofNat_half_add, hw, extractLsb'_one_eq_ofBool, shiftFlags_ofBool]

/-- SLA shifts a zero in. -/
theorem slaOut_eq :
    slaOut v = ⟨BitVec.ofNat 8 (2 * v.toNat), shiftedFlags (BitVec.ofNat 8 (2 * v.toNat)) (v.getLsbD 7)⟩ := by
  have hrl : slaOut v = rlOut (BitVec.ofBool false) v := by
    rw [slaOut, rlOut, carryByte_ofBool, flagIf_false, BitVec.ofNat_eq_ofNat, BitVec.or_zero]
  exact hrl.trans (rlOut_ofBool v false rfl)

/-- SLL shifts a one in. -/
theorem sllOut_eq :
    sllOut v = ⟨BitVec.ofNat 8 (2 * v.toNat + 1), shiftedFlags (BitVec.ofNat 8 (2 * v.toNat + 1)) (v.getLsbD 7)⟩ :=
  have hrl : sllOut v = rlOut (BitVec.ofBool true) v := rfl
  hrl.trans (rlOut_ofBool v true rfl)

/-- SRL shifts a zero in. -/
theorem srlOut_eq :
    srlOut v = ⟨BitVec.ofNat 8 (v.toNat / 2), shiftedFlags (BitVec.ofNat 8 (v.toNat / 2)) (v.getLsbD 0)⟩ := by
  have hrr : srlOut v = rrOut (BitVec.ofBool false) v := by
    rw [srlOut, rrOut, carryByte_ofBool, flagIf_false, BitVec.ofNat_eq_ofNat, BitVec.zero_shiftLeft, BitVec.or_zero]
  exact hrr.trans (rrOut_ofBool v false rfl)

/-- Half of the signed value, rounded down, is half of the unsigned value with the sign put in at bit 7. -/
theorem ofNat_half_add_sign :
    BitVec.ofNat 8 (v.toNat / 2 + 128 * (v.getLsbD 7).toNat) = BitVec.ofInt 8 (v.toInt / 2) := by
  have hv := v.isLt
  have hint : v.toInt = if v.getLsbD 7 then (v.toNat : Int) - 256 else v.toNat := BitVec.toInt_eq_msb_cond v
  refine BitVec.eq_of_toNat_eq ?_
  rw [BitVec.toNat_ofNat, BitVec.toNat_ofInt, hint]
  cases v.getLsbD 7
  · rw [Bool.toNat_false, if_neg Bool.false_ne_true]
    omega
  · rw [Bool.toNat_true, if_pos rfl]
    omega

/-- SRA shifts the sign in. -/
theorem sraOut_eq :
    sraOut v = ⟨BitVec.ofInt 8 (v.toInt / 2), shiftedFlags (BitVec.ofInt 8 (v.toInt / 2)) (v.getLsbD 0)⟩ := by
  have hsign : v &&& 0x80 = carryByte (BitVec.ofBool (v.getLsbD 7)) <<< 7 := by
    rw [carryByte_ofBool]
    refine (and_flagS v).trans ?_
    cases v.getLsbD 7 <;> rfl
  have hrr : sraOut v = rrOut (BitVec.ofBool (v.getLsbD 7)) v := by rw [sraOut, rrOut, hsign, BitVec.or_comm]
  exact hrr.trans (rrOut_ofBool v _ (ofNat_half_add_sign v))

end Transforms

/-! ### BIT, RES and SET (R103 to R105) -/

theorem flagIf_or (c : Bool) (m n : Byte) : flagIf c (m ||| n) = flagIf c m ||| flagIf c n := by
  cases c <;> simp

theorem bitFlags_eq_flagByte (f v : Byte) (b : Fin 8) :
    bitFlags f v b = flagByte (decide (b.val = 7) && v.getLsbD 7) (!v.getLsbD b.val) (v.getLsbD 5) true (v.getLsbD 3)
      (!v.getLsbD b.val) false (f.getLsbD 0) := by
  simp only [bitFlags, and_flagC, and_flag5_or_flag3, flagIf_or, flagByte_eq_or, flagIf_true, flagIf_false,
    beq_eq_decide]
  ac_rfl

/-- The mask of bit b holds that bit alone. -/
theorem getLsbD_bitMask (b k : Fin 8) : (bitMask b).getLsbD k.val = decide (k = b) := by
  have htwo : bitMask b = BitVec.twoPow 8 b.val := rfl
  rw [htwo, BitVec.getLsbD_twoPow]
  simp [Fin.ext_iff, eq_comm]

theorem getLsbD_and_not_bitMask (v : Byte) (b k : Fin 8) :
    (v &&& ~~~bitMask b).getLsbD k.val = (v.getLsbD k.val && decide (k ≠ b)) := by
  rw [BitVec.getLsbD_and, BitVec.getLsbD_not, getLsbD_bitMask, decide_eq_true k.isLt, Bool.true_and, decide_not]

theorem getLsbD_or_bitMask (v : Byte) (b k : Fin 8) :
    (v ||| bitMask b).getLsbD k.val = (v.getLsbD k.val || decide (k = b)) := by
  rw [BitVec.getLsbD_or, getLsbD_bitMask]

/-! ### The statements -/

/-- Settles O43: RLC and RRC are the word rotates, RL and RR shift the old C in. -/
theorem rotatesSetResultAndFlags : Obligations.RotatesSetResultAndFlags := by
  unfold Obligations.RotatesSetResultAndFlags
  refine fun r s =>
    ⟨⟨encodes_rotOps _ 0 r, encodes_rotOps _ 1 r, encodes_rotOps _ 2 r, encodes_rotOps _ 3 r⟩, ?_, ?_, ?_, ?_⟩
  · rw [exec_rlcOf, rotateReg_eq_withReg (rlcOut_eq _)]
  · rw [exec_rrcOf, rotateReg_eq_withReg (rrcOut_eq _)]
  · rw [exec_rlOf, carryIn_eq_ofBool_carry, rotateReg_eq_withReg (rlOut_ofBool _ _ rfl)]
  · rw [exec_rrOf, carryIn_eq_ofBool_carry, rotateReg_eq_withReg (rrOut_ofBool _ _ rfl)]

/-- Settles O44: SLA and SRL shift a zero in, SRA the sign. -/
theorem shiftsSetResultAndFlags : Obligations.ShiftsSetResultAndFlags := by
  unfold Obligations.ShiftsSetResultAndFlags
  refine fun r s => ⟨⟨encodes_rotOps _ 4 r, encodes_rotOps _ 5 r, encodes_rotOps _ 6 r⟩, ?_, ?_, ?_⟩
  · rw [exec_slaOf, rotateReg_eq_withReg (slaOut_eq _)]
  · rw [exec_sraOf, rotateReg_eq_withReg (sraOut_eq _)]
  · rw [exec_srlOf, rotateReg_eq_withReg (srlOut_eq _)]

/-- Settles O45: the opcodes are the rows of family 8, for any map, and SLL shifts a one in. -/
theorem sllForcesBitZeroOnTheMappedRegister : Obligations.SllForcesBitZeroOnTheMappedRegister := by
  unfold Obligations.SllForcesBitZeroOnTheMappedRegister
  refine fun s => ⟨fun k => encodes_of_opcodeRow fun _ => .sll k, fun r => ?_, by decide, by decide⟩
  rw [exec_sllOf, rotateReg_eq_withReg (sllOut_eq _)]

/-- Settles O46: BIT writes `F` alone, with the flags of `bitFlags_eq_flagByte`. -/
theorem bitTestSetsFlagsOnly : Obligations.BitTestSetsFlagsOnly := by
  unfold Obligations.BitTestSetsFlagsOnly
  refine fun b r s => ⟨encodes_bitOps _ 0 b r, ?_⟩
  rw [exec_bitOf, testBitOf, reg8_eq_regValue, bitFlags_eq_flagByte, setFlags, carry]

/-- Settles O47: RES clears and SET sets the bit of `bitMask`, and `setReg8` keeps `F`. -/
theorem bitResetAndSetChangeOneBit : Obligations.BitResetAndSetChangeOneBit := by
  unfold Obligations.BitResetAndSetChangeOneBit
  refine fun b r s => ⟨⟨encodes_bitOps _ 1 b r, encodes_bitOps _ 2 b r⟩,
    regValue s r &&& ~~~bitMask b, regValue s r ||| bitMask b, ?_, ?_,
    fun k => ⟨getLsbD_and_not_bitMask _ b k, getLsbD_or_bitMask _ b k⟩⟩
  · rw [exec_resOf, resetBitOf, reg8_eq_regValue, setReg8_eq_withReg]
  · rw [exec_setOf, setBitOf, reg8_eq_regValue, setReg8_eq_withReg]

end Sys2Proof.Machine
end

section
/-! 16-bit operations (45_pair16.md). A sum or difference widened to 17 bits has its carry or borrow in bit 16, as the
carry chain says at every width; H and P/V are the laws of the 8-entry tables for words (40_flag_tables.md R69). -/

namespace Sys2Proof.Machine

open Sys2Proof.Claims

/-! ### The opcodes (30_encoding.md R48) -/

/-- The rows of family 10. -/
theorem encodes_incDecOps (p : Params) (k : Fin 2) (q : Pair) :
    Encodes p (360 + 4 * k.val + idxP q) (incDecOps.get k q) :=
  encodes_of_opcodeRow fun _ => .incDecPair k q

/-- The rows of family 15. -/
theorem encodes_adcSbcOps (p : Params) (k : Fin 2) (q : Pair) :
    Encodes p (378 + 4 * k.val + idxP q) (adcSbcOps.get k q) :=
  encodes_of_opcodeRow fun _ => .adcSbcHl k q

/-! ### Sums and differences widened by one bit -/

section Widened

variable {w : Nat} (x y : BitVec w) (c : Bool)

theorem sub_sub_ofBool_eq_addCarry_not : x - y - (BitVec.ofBool c).setWidth w = addCarry x (~~~y) (!c) := by
  have hone : (1#1).setWidth w = 1#w := BitVec.eq_of_toNat_eq (by simp)
  rw [addCarry, BitVec.not_eq_neg_add]
  cases c <;> simp [hone] <;> ring

theorem setWidth_addCarry {v : Nat} (h : v ≤ w) :
    (addCarry x y c).setWidth v = addCarry (x.setWidth v) (y.setWidth v) c := by
  rw [addCarry, addCarry, BitVec.setWidth_add _ _ h, BitVec.setWidth_add _ _ h, BitVec.setWidth_setWidth_of_le _ h]

/-- The added bit of the sum is the carry out. -/
theorem getLsbD_addCarry_setWidth_succ :
    (addCarry (x.setWidth (w + 1)) (y.setWidth (w + 1)) c).getLsbD w =
      decide (2 ^ w ≤ x.toNat + y.toNat + c.toNat) := by
  rw [addCarry, BitVec.getLsbD_add_add_bool (Nat.lt_succ_self w)]
  simp [BitVec.carry]

/-- The complement sets the added bit of `y`, so that of the difference is the inverted carry: the borrow. -/
theorem getLsbD_addCarry_not_setWidth_succ :
    (addCarry (x.setWidth (w + 1)) (~~~y.setWidth (w + 1)) (!c)).getLsbD w = decide (x.toNat < y.toNat + c.toNat) := by
  have hborrow := not_carry_not_eq (x.setWidth (w + 1)) (y.setWidth (w + 1)) c (Nat.le_succ w)
  rw [addCarry, BitVec.getLsbD_add_add_bool (Nat.lt_succ_self w)]
  simpa using hborrow

end Widened

section Words

variable (a b : Word) (c : Bool)

theorem sum16_false : sum16 a b false = a + b := by
  rw [sum16, ofNat_sum_eq_addCarry, addCarry]
  exact BitVec.add_zero _

theorem diff16_false : diff16 a b false = a - b := by
  rw [diff16, ofInt_diff_eq_addCarry_not, ← sub_sub_ofBool_eq_addCarry_not]
  exact BitVec.sub_zero _

theorem setWidth_sum17 :
    (a.setWidth 17 + b.setWidth 17 + (BitVec.ofBool c).setWidth 17).setWidth 16 = sum16 a b c := by
  rw [sum16, ofNat_sum_eq_addCarry, ← addCarry, setWidth_addCarry _ _ _ (by omega)]
  simp

theorem setWidth_diff17 :
    (a.setWidth 17 - b.setWidth 17 - (BitVec.ofBool c).setWidth 17).setWidth 16 = diff16 a b c := by
  rw [diff16, ofInt_diff_eq_addCarry_not, sub_sub_ofBool_eq_addCarry_not, setWidth_addCarry _ _ _ (by omega),
    BitVec.setWidth_not (by omega)]
  simp

theorem getLsbD_sixteen_sum17 :
    (a.setWidth 17 + b.setWidth 17 + (BitVec.ofBool c).setWidth 17).getLsbD 16 =
      decide (65535 < a.toNat + b.toNat + c.toNat) :=
  getLsbD_addCarry_setWidth_succ a b c

theorem getLsbD_sixteen_diff17 :
    (a.setWidth 17 - b.setWidth 17 - (BitVec.ofBool c).setWidth 17).getLsbD 16 =
      decide (a.toNat < b.toNat + c.toNat) := by
  rw [sub_sub_ofBool_eq_addCarry_not]
  exact getLsbD_addCarry_not_setWidth_succ a b c

end Words

/-! ### Flags of a 16-bit result (R108, R112, R113) -/

/-- Bits 5 and 3 of the high byte are bits 13 and 11 of the result. -/
theorem highFlags_flag5_flag3 (r : Word) :
    highFlags r (flag5 ||| flag3) = flagIf (r.getLsbD 13) flag5 ||| flagIf (r.getLsbD 11) flag3 := by
  simp [highFlags, and_flag5_or_flag3]

/-- Bit 7 of the high byte is bit 15 of the result. -/
theorem highFlags_flagS_flag5_flag3 (r : Word) :
    highFlags r (flagS ||| flag5 ||| flag3) =
      flagIf (r.getLsbD 15) flagS ||| flagIf (r.getLsbD 13) flag5 ||| flagIf (r.getLsbD 11) flag3 := by
  simp [highFlags, BitVec.and_or_distrib_left, and_flagS, and_flag5, and_flag3]

theorem adc16_ofBool (a b : Word) (c : Bool) :
    adc16 a b (BitVec.ofBool c) =
      ⟨sum16 a b c, resultFlags16 (sum16 a b c) (decide (4095 < a.toNat % 4096 + b.toNat % 4096 + c.toNat))
        (overflows16 (a.toInt + b.toInt + c.toNat)) false (decide (65535 < a.toNat + b.toNat + c.toNat))⟩ := by
  simp only [adc16, setWidth_sum17, getLsbD_sixteen_sum17, tableAt_hcAdd_sum16, tableAt_ovAdd_sum16,
    highFlags_flagS_flag5_flag3, resultFlags16, flagByte_eq_or, flagIf_false, BitVec.ofNat_eq_ofNat, BitVec.or_zero]
  ac_rfl

theorem sbc16_ofBool (a b : Word) (c : Bool) :
    sbc16 a b (BitVec.ofBool c) =
      ⟨diff16 a b c, resultFlags16 (diff16 a b c) (decide (a.toNat % 4096 < b.toNat % 4096 + c.toNat))
        (overflows16 (a.toInt - b.toInt - c.toNat)) true (decide (a.toNat < b.toNat + c.toNat))⟩ := by
  simp only [sbc16, setWidth_diff17, getLsbD_sixteen_diff17, tableAt_hcSub_diff16, tableAt_ovSub_diff16,
    highFlags_flagS_flag5_flag3, resultFlags16, flagByte_eq_or, flagIf_true]
  ac_rfl

/-- ADD HL keeps S, Z and P/V, and sums with no carry-in. -/
theorem add16_eq (f : Byte) (a b : Word) :
    add16 f a b =
      ⟨sum16 a b false, flagByte (f.getLsbD 7) (f.getLsbD 6) ((sum16 a b false).getLsbD 13)
        (decide (4095 < a.toNat % 4096 + b.toNat % 4096)) ((sum16 a b false).getLsbD 11) (f.getLsbD 2) false
        (decide (65535 < a.toNat + b.toNat))⟩ := by
  have hwide : a.setWidth 17 + b.setWidth 17 = a.setWidth 17 + b.setWidth 17 + (BitVec.ofBool false).setWidth 17 :=
    (BitVec.add_zero _).symm
  have hkeep : f &&& (flagS ||| flagZ ||| flagPV) =
      flagIf (f.getLsbD 7) flagS ||| flagIf (f.getLsbD 6) flagZ ||| flagIf (f.getLsbD 2) flagPV := and_keepSZP f
  unfold add16
  rw [hwide]
  simp only [setWidth_sum17, getLsbD_sixteen_sum17, tableAt_hcAdd_sum16, hkeep, highFlags_flag5_flag3, flagByte_eq_or,
    flagIf_false, Bool.toNat_false, Nat.add_zero, BitVec.ofNat_eq_ofNat, BitVec.or_zero]
  ac_rfl

/-! ### HL and `F` in one write -/

theorem putOutHl_eq_withPair (o : Out16) (s : State) :
    putOutHl o s = { withPair s .hl o.res with f := o.flags } := by
  rw [putOutHl, setPair_eq_withPair, setFlags]

/-! ### The statements -/

/-- Settles O48: the pair's value plus or minus one is a word operation, and `setPair` keeps `F`. -/
theorem pairIncrementAndDecrementWrap : Obligations.PairIncrementAndDecrementWrap := by
  unfold Obligations.PairIncrementAndDecrementWrap
  refine fun p s => ⟨⟨encodes_incDecOps _ 0 p, encodes_incDecOps _ 1 p⟩, ?_, ?_⟩
  · rw [exec_incPairOf, incPair, pair_eq_pairValue, setPair_eq_withPair, sum16_false]
  · rw [exec_decPairOf, decPair, pair_eq_pairValue, setPair_eq_withPair, diff16_false]

/-- Settles O49: the opcode is a row of family 11, and ADD HL has the result and flags of `add16_eq`. -/
theorem addHlSetsSumAndKeepsSZPV : Obligations.AddHlSetsSumAndKeepsSZPV := by
  unfold Obligations.AddHlSetsSumAndKeepsSZPV
  refine fun p s => ⟨encodes_of_opcodeRow fun _ => .addHl p, ?_⟩
  rw [exec_addHlOf, addHl, pair_eq_pairValue, pair_eq_pairValue, add16_eq, putOutHl_eq_withPair]

/-- Settles O50: EX DE,HL is one write of the four registers, and LD SP,HL writes HL's value. -/
theorem exchangeAndLoadSpFromHl : Obligations.ExchangeAndLoadSpFromHl := by
  unfold Obligations.ExchangeAndLoadSpFromHl
  refine fun s => ⟨⟨encodes_of_opcodeRow fun _ => .exDeHl, encodes_of_opcodeRow fun _ => .ldSpHl⟩, ?_, ?_⟩
  · rw [exec_of_performs .exDeHl, exchangeDeHl]
  · rw [exec_of_performs .ldSpHl, loadSpHl, pair_eq_pairValue, setPair]

/-- Settles O51: the opcode is a row of family 14, which names the whole immediate, and the load writes it with
`setPair`. -/
theorem pairImmediateLoadTakesWholeImmediate : Obligations.PairImmediateLoadTakesWholeImmediate := by
  unfold Obligations.PairImmediateLoadTakesWholeImmediate
  refine fun p imm nn s => ⟨decode_of_opcodeRow (.ldPairImm p), ?_⟩
  rw [exec_ldPairImmOf, loadPairImm, setPair_eq_withPair]

/-- Settles O52: ADC HL adds the old C, with the result and flags of `adc16_ofBool`. -/
theorem adcHlSetsSumAndFlags : Obligations.AdcHlSetsSumAndFlags := by
  unfold Obligations.AdcHlSetsSumAndFlags
  refine fun p s => ⟨encodes_adcSbcOps _ 0 p, ?_⟩
  rw [exec_adcHlOf, adcHl, pair_eq_pairValue, pair_eq_pairValue, carryIn_eq_ofBool_carry, adc16_ofBool,
    putOutHl_eq_withPair]

/-- Settles O53: SBC HL subtracts the old C, with the result and flags of `sbc16_ofBool`. -/
theorem sbcHlSetsDifferenceAndFlags : Obligations.SbcHlSetsDifferenceAndFlags := by
  unfold Obligations.SbcHlSetsDifferenceAndFlags
  refine fun p s => ⟨encodes_adcSbcOps _ 1 p, ?_⟩
  rw [exec_sbcHlOf, sbcHl, pair_eq_pairValue, pair_eq_pairValue, carryIn_eq_ofBool_carry, sbc16_ofBool,
    putOutHl_eq_withPair]

end Sys2Proof.Machine
end

section
/-! The exception (60_exceptions.md R114 to R117): what an execute of an out-of-range opcode does, that every other one
completes, and the way out of a set latch. -/

namespace Sys2Proof.Machine

open Sys2Proof.Laws Sys2Proof.Safety

/-! ### The out-of-range opcodes -/

theorem outOfRange_of_fault {s : State} (h : s.params.oorPolicy = .fault) (o : Word) :
    outOfRange o s = raiseIllegalOpcode o s := by
  simp only [outOfRange, h]

theorem outOfRange_of_inert {s : State} (h : s.params.oorPolicy = .inert) (o : Word) : outOfRange o s = s := by
  simp only [outOfRange, h]

/-- An execute of an out-of-range opcode follows the policy with the opcode's own value. -/
theorem execute_of_outOfRange {s : State} {x : Presented} (hlive : Live s) (ho : 386 ≤ x.opcode.toNat) :
    execute x s = .next (outOfRange x.opcode s) :=
  execute_of_illegal hlive (decode_of_dispatch_none (dispatch_outOfRange s.params x.imm ho))

/-- Settles O4: under the policy `fault` an out-of-range opcode is `raiseIllegalOpcode`. -/
theorem illegalOpcodeSetsOnlyTheLatch : Obligations.IllegalOpcodeSetsOnlyTheLatch := by
  unfold Obligations.IllegalOpcodeSetsOnlyTheLatch
  intro s x hlive hpol ho
  rw [execute_of_outOfRange hlive ho, outOfRange_of_fault hpol, raiseIllegalOpcode]

/-- Settles O5: under the policy `inert` an out-of-range opcode is nothing. -/
theorem inertPolicyChangesNothing : Obligations.InertPolicyChangesNothing := by
  unfold Obligations.InertPolicyChangesNothing
  intro s x hlive hpol ho
  rw [execute_of_outOfRange hlive ho, outOfRange_of_inert hpol]

/-! ### The set latch and completion -/

/-- With the latch set only the loads and reads have a next state beside reset's, and they keep the latch (R116). -/
theorem fault_of_perform_of_latched {op : HostOp} {s t : State} (hv : s.fault.valid = true) (hop : op ≠ .reset)
    (h : perform op s = .next t) : t.fault = s.fault := by
  obtain ⟨hreset, -⟩ | ⟨m, -, rfl⟩ | ⟨x, -, he⟩ | ⟨-, rfl⟩ | ⟨-, rfl⟩ := perform_next_cases h
  · exact absurd hreset hop
  · exact loadImage_fault m s
  · cases (execute_of_latched x hv).symm.trans he
  · exact reply_fault _ s
  · exact reply_fault _ s

/-- Settles O6: an execute has no step, the loads and reads keep the latch, and the state after reset has it clear. -/
theorem setLatchStopsExecutesUntilReset : Obligations.SetLatchStopsExecutesUntilReset := by
  unfold Obligations.SetLatchStopsExecutesUntilReset
  intro s hv
  exact ⟨fun x => execute_of_latched x hv, fun _ _ => fault_of_perform_of_latched hv, hostReset s, rfl, rfl⟩

/-- Settles O7: every instruction performs its family's operation, which writes registers alone. -/
theorem everyInstructionCompletesWithoutException : Obligations.EveryInstructionCompletesWithoutException := by
  unfold Obligations.EveryInstructionCompletesWithoutException
  intro i s
  obtain ⟨op, hop⟩ := exists_performs i
  exact ⟨op s, exec_of_performs hop s, sameControl_of_performs hop s⟩

end Sys2Proof.Machine
end

section
/-! Sequences of executes (60_exceptions.md R121, R122): what the host still has to present has no part in what an execute
does, and a sequence of valid opcodes runs to its end. -/

namespace Sys2Proof.Machine

open Sys2Proof.Laws Sys2Proof.Claims Sys2Proof.Safety

/-! ### Changing what the host still has to present -/

/-- The same block, with other operations still to be performed. -/
def setInputs (ops : List HostOp) (s : State) : State := { s with inputs := ops }

@[simp] theorem setInputs_a (ops : List HostOp) (s : State) : (setInputs ops s).a = s.a := rfl
@[simp] theorem setInputs_f (ops : List HostOp) (s : State) : (setInputs ops s).f = s.f := rfl
@[simp] theorem setInputs_fault (ops : List HostOp) (s : State) : (setInputs ops s).fault = s.fault := rfl
@[simp] theorem setInputs_params (ops : List HostOp) (s : State) : (setInputs ops s).params = s.params := rfl
@[simp] theorem carryIn_setInputs (ops : List HostOp) (s : State) : carryIn (setInputs ops s) = carryIn s := rfl

@[simp] theorem setInputs_setInputs (ops ops' : List HostOp) (s : State) :
    setInputs ops (setInputs ops' s) = setInputs ops s := rfl

@[simp] theorem reg8_setInputs (r : Reg7) (ops : List HostOp) (s : State) : reg8 r (setInputs ops s) = reg8 r s := by
  cases r <;> rfl

@[simp] theorem pair_setInputs (p : Pair) (ops : List HostOp) (s : State) : pair p (setInputs ops s) = pair p s := by
  cases p <;> rfl

@[simp] theorem setReg8_setInputs (r : Reg7) (v : Byte) (ops : List HostOp) (s : State) :
    setReg8 r v (setInputs ops s) = setInputs ops (setReg8 r v s) := by
  cases r <;> rfl

@[simp] theorem setPair_setInputs (p : Pair) (v : Word) (ops : List HostOp) (s : State) :
    setPair p v (setInputs ops s) = setInputs ops (setPair p v s) := by
  cases p <;> rfl

@[simp] theorem setFlags_setInputs (v : Byte) (ops : List HostOp) (s : State) :
    setFlags v (setInputs ops s) = setInputs ops (setFlags v s) := rfl

@[simp] theorem putOut8_setInputs (r : Reg7) (o : Out8) (ops : List HostOp) (s : State) :
    putOut8 r o (setInputs ops s) = setInputs ops (putOut8 r o s) := by
  simp [putOut8]

@[simp] theorem putOutHl_setInputs (o : Out16) (ops : List HostOp) (s : State) :
    putOutHl o (setInputs ops s) = setInputs ops (putOutHl o s) := rfl

theorem outOfRange_setInputs (o : Word) (ops : List HostOp) (s : State) :
    outOfRange o (setInputs ops s) = setInputs ops (outOfRange o s) := by
  cases hpol : s.params.oorPolicy with
  | fault => rw [outOfRange_of_fault hpol, outOfRange_of_fault (s := setInputs ops s) hpol]; rfl
  | inert => rw [outOfRange_of_inert hpol, outOfRange_of_inert (s := setInputs ops s) hpol]

/-- A family's operation neither reads nor writes the host's list. -/
theorem setInputs_of_performs {i : Instr} {op : State → State} (h : Performs i op) (ops : List HostOp) (s : State) :
    op (setInputs ops s) = setInputs ops (op s) := by
  cases h with
  | nop | exDeHl => rfl
  | ld | ldImm | res | set => simp [loadReg, loadImm, resetBitOf, setBitOf]
  | cp | bit | scf | ccf => simp [aluCp, testBitOf, setCarry, complementCarry]
  | add | adc | sub | sbc => simp [aluAdd, aluAdc, aluSub, aluSbc]
  | and | xor | or | neg => simp [aluAnd, aluXor, aluOr, negateA]
  | inc | dec | daa | cpl => simp [incReg, decReg, decimalAdjust, complementA]
  | rlca | rrca | rla | rra => simp [rotateA]
  | rlc | rrc | rl | rr | sla | sra | srl | sll => simp [rotateReg]
  | incPair | decPair | ldSpHl | ldPairImm => simp [incPair, decPair, loadSpHl, loadPairImm]
  | addHl | adcHl | sbcHl => simp [addHl, adcHl, sbcHl]

/-! ### Presenting one execute -/

theorem presentOne_of_execute {s t : State} {x : Presented} (h : execute x s = .next t) : presentOne s x = t := by
  simp only [presentOne, h]

theorem presentOne_of_latched {s : State} (x : Presented) (h : s.fault.valid = true) : presentOne s x = s := by
  simp only [presentOne, execute_of_latched x h]

theorem execute_of_performs {s : State} {x : Presented} {i : Instr} {op : State → State} (hlive : Live s)
    (hd : decode s.params x = .instr i) (hop : Performs i op) : execute x s = .next (op s) :=
  (execute_of_instr hlive hd).trans (exec_of_performs hop s)

theorem presentOne_setInputs (ops : List HostOp) (s : State) (x : Presented) :
    presentOne (setInputs ops s) x = setInputs ops (presentOne s x) := by
  cases hv : s.fault.valid with
  | true => rw [presentOne_of_latched x hv, presentOne_of_latched (s := setInputs ops s) x hv]
  | false =>
    cases hd : decode s.params x with
    | instr i =>
      obtain ⟨op, hop⟩ := exists_performs i
      rw [presentOne_of_execute (execute_of_performs hv hd hop),
        presentOne_of_execute (execute_of_performs (s := setInputs ops s) hv hd hop), setInputs_of_performs hop]
    | illegalOpcode o =>
      rw [presentOne_of_execute (execute_of_illegal hv hd),
        presentOne_of_execute (execute_of_illegal (s := setInputs ops s) hv hd), outOfRange_setInputs]

/-- With the latch clear an execute of a valid opcode completes and raises nothing (R114). -/
theorem execute_of_wellFormed {s : State} {x : Presented} (hx : x.wellFormed = true) (hlive : Live s) :
    execute x s = .next (presentOne s x) ∧ SameControl s (presentOne s x) := by
  obtain ⟨i, hi⟩ := dispatch_inRange s.params x.imm (of_decide_eq_true hx)
  obtain ⟨op, hop⟩ := exists_performs i
  have he : execute x s = .next (op s) := execute_of_performs hlive (decode_of_dispatch hi) hop
  rw [presentOne_of_execute he]
  exact ⟨he, sameControl_of_performs hop s⟩

/-! ### Presenting a sequence -/

theorem presentAll_setInputs (ops : List HostOp) (s : State) (xs : List Presented) :
    presentAll (setInputs ops s) xs = setInputs ops (presentAll s xs) := by
  induction xs generalizing s with
  | nil => rfl
  | cons x xs ih => rw [presentAll, presentOne_setInputs, ih, presentAll]

theorem SameControl.trans {s t u : State} (hst : SameControl s t) (htu : SameControl t u) : SameControl s u := by
  obtain ⟨hf, hp, hl, hi, hr⟩ := hst
  obtain ⟨hf', hp', hl', hi', hr'⟩ := htu
  exact ⟨hf'.trans hf, hp'.trans hp, hl'.trans hl, hi'.trans hi, hr'.trans hr⟩

/-- A sequence of valid opcodes raises nothing. -/
theorem sameControl_presentAll {s : State} {xs : List Presented} (hxs : ∀ x ∈ xs, x.wellFormed = true) (hlive : Live s) :
    SameControl s (presentAll s xs) := by
  induction xs generalizing s with
  | nil => exact ⟨rfl, rfl, rfl, rfl, rfl⟩
  | cons x xs ih =>
    obtain ⟨hx, hrest⟩ := List.forall_mem_cons.mp hxs
    obtain ⟨-, hone⟩ := execute_of_wellFormed hx hlive
    have hlive' : Live (presentOne s x) := (congrArg FaultLatch.valid hone.1).trans hlive
    exact SameControl.trans hone (ih hrest hlive')

/-- A run whose first step answers a next state goes on from that state. -/
theorem run_succ_of_step {s t : State} (h : step s = .next t) (k : Nat) :
    Host.Core.run core (k + 1) s = Host.Core.run core k t := by
  have hcore : core.step s = .next t := h
  simp only [Host.Core.run, hcore]

/-- The machine's steps follow `presentAll`, the sequence being presented and nothing after it. -/
theorem run_of_presented {s : State} {xs : List Presented} (hxs : ∀ x ∈ xs, x.wellFormed = true) (hlive : Live s)
    (hin : s.inputs = xs.map .execute) :
    Host.Core.run core xs.length s = .next (setInputs [] (presentAll s xs)) := by
  induction xs generalizing s with
  | nil => exact congrArg Host.Outcome.next (congrArg (setInputs · s) hin)
  | cons x xs ih =>
    obtain ⟨hx, hrest⟩ := List.forall_mem_cons.mp hxs
    obtain ⟨hexec, hf, -, -, htaken, -⟩ := execute_of_wellFormed (s := setInputs (xs.map .execute) s) hx hlive
    have hstep : step s = .next (presentOne (setInputs (xs.map .execute) s) x) := (step_of_cons hin).trans hexec
    calc Host.Core.run core (xs.length + 1) s
        = Host.Core.run core xs.length (presentOne (setInputs (xs.map .execute) s) x) := run_succ_of_step hstep _
      _ = .next (setInputs [] (presentAll (setInputs (xs.map .execute) s) (x :: xs))) :=
        ih hrest ((congrArg FaultLatch.valid hf).trans hlive) htaken
      _ = .next (setInputs [] (presentAll s (x :: xs))) := by rw [presentAll_setInputs, setInputs_setInputs]

/-- Settles O11: each step takes one execute off the list and performs it, whatever stands behind it. -/
theorem validSequencesRunToTheirEnd : Obligations.ValidSequencesRunToTheirEnd := by
  unfold Obligations.ValidSequencesRunToTheirEnd
  intro xs s hxs hlive hin
  obtain ⟨hfault, -⟩ := sameControl_presentAll hxs hlive
  exact ⟨run_of_presented hxs hlive hin, hfault⟩

end Sys2Proof.Machine
end

section
/-! The image and the fingerprint (20_memory.md R30, 60_exceptions.md R121 to R123). -/

namespace Sys2Proof.Machine

open Sys2Proof.Safety

/-! ### The ten-byte image -/

/-- Reading after a load gives the image back. -/
@[simp] theorem imageOf_loadImage (m : Image) (s : State) : imageOf (loadImage m s) = m := by
  simp only [imageOf, loadImage_a, loadImage_f, loadImage_b, loadImage_c, loadImage_d, loadImage_e, loadImage_h,
    loadImage_l, loadImage_sp, lowByte_joinBytes, highByte_joinBytes]
  ext i hi
  interval_cases i <;> rfl

/-- Settles O12: the image is written field by field and read back in the same order. -/
theorem loadStateAndReadsFollowTheImage : Obligations.LoadStateAndReadsFollowTheImage := by
  unfold Obligations.LoadStateAndReadsFollowTheImage
  intro m s
  refine ⟨⟨loadImage m s, rfl, rfl, ?_, ?_, ?_⟩, ?_, rfl⟩
  · rw [← lowByte_eq_lo8, loadImage_sp, lowByte_joinBytes]
  · rw [← highByte_eq_hi8, loadImage_sp, highByte_joinBytes]
  · rw [perform, readState, imageOf_loadImage, reply]
  · simp only [perform, readState, reply, imageOf, lowByte_eq_lo8, highByte_eq_hi8]

/-! ### The fingerprint -/

theorem endImage_of_loaded {s : State} (hloaded : s.loaded = true) (hlive : Live s) : endImage s = some (imageOf s) := by
  simp [endImage, hloaded, hlive]

/-- A run of valid opcodes ends with a final image: its state was loaded and its latch is clear (R122). -/
theorem endImage_runSequence (p : Params) (m : Image) {xs : List Presented} (hxs : ∀ x ∈ xs, x.wellFormed = true) :
    endImage (runSequence p m xs) = some (imageOf (runSequence p m xs)) := by
  have hstart : Live (loadImage m { State.reset with params := p }) := rfl
  obtain ⟨hfault, -, hloaded, -⟩ := sameControl_presentAll hxs hstart
  exact endImage_of_loaded hloaded (congrArg FaultLatch.valid hfault)

/-- The end images of a sequence from each seed, laid end to end. -/
def endImages {n : Nat} (p : Params) (xs : List Presented) (seeds : Vector Image n) : Vector Byte (n * 10) :=
  seeds.flatMap fun m => imageOf (runSequence p m xs)

theorem fingerprintFrom_eq_flatMap (p : Params) {xs : List Presented} (hxs : ∀ x ∈ xs, x.wellFormed = true)
    (seeds : List Image) :
    fingerprintFrom p xs seeds = some (seeds.flatMap fun m => (imageOf (runSequence p m xs)).toList) := by
  induction seeds with
  | nil => rfl
  | cons m rest ih => simp only [fingerprintFrom, endImage_runSequence p m hxs, ih, List.flatMap_cons]

theorem fingerprint_eq_endImages (p : Params) {xs : List Presented} (hxs : ∀ x ∈ xs, x.wellFormed = true)
    (seeds : Vector Image 8) : fingerprint p seeds xs = some (endImages p xs seeds).toList :=
  (fingerprintFrom_eq_flatMap p hxs seeds.toList).trans (congrArg some Array.toList_flatMap.symm)

/-- In vectors of length `m` laid end to end, vector `k` is the `m` elements from `m * k`. -/
theorem take_drop_toList_flatMap {α β : Type} {n m k : Nat} (v : Vector α n) (f : α → Vector β m) (hk : k < n) :
    ((v.flatMap f).toList.drop (m * k)).take m = (f v[k]).toList := by
  have hend : m * k + m ≤ n * m := (Nat.mul_le_mul_left m hk).trans_eq (Nat.mul_comm m n)
  refine List.ext_getElem (by simp; omega) fun j _ hj => ?_
  have hjm : j < m := by simpa using hj
  have hdiv : (m * k + j) / m = k := by rw [Nat.mul_add_div (by omega), Nat.div_eq_of_lt hjm, Nat.add_zero]
  have hmod : (m * k + j) % m = j := by rw [Nat.mul_add_mod, Nat.mod_eq_of_lt hjm]
  simp [Vector.getElem_flatMap, hdiv, hmod]

/-- Settles O57: every run ends with a final image of ten bytes, so seed `k`'s stands at byte `10 k`. -/
theorem fingerprintLaysOutEightEndImages : Obligations.FingerprintLaysOutEightEndImages := by
  unfold Obligations.FingerprintLaysOutEightEndImages
  intro p seeds xs hxs
  refine ⟨_, fingerprint_eq_endImages p hxs seeds, Vector.length_toList, fun k => ?_⟩
  exact ⟨endImage_runSequence p _ hxs, take_drop_toList_flatMap seeds _ k.isLt⟩

end Sys2Proof.Machine
end

section
/-! Reset and hazards (70_reset_and_hazards.md R129, R136): the state after reset, and that an execute reads and writes the
block's own state alone. Two states that agree as blocks give the same value at every read, and the same write keeps them
in agreement; a family's operation is such reads and one write. -/

namespace Sys2Proof.Machine

open Sys2Proof.Claims

/-! ### Reset -/

theorem regValue_hostReset (r : Reg7) (s : State) : regValue (hostReset s) r = 0 := by cases r <;> rfl

/-- Settles O1: the state after reset is `hostReset`, which writes the model's zeros and keeps what is no state of the
block. -/
theorem hostResetClearsLatchAndRegisters : Obligations.HostResetClearsLatchAndRegisters := by
  unfold Obligations.HostResetClearsLatchAndRegisters
  intro s
  exact ⟨hostReset s, rfl, hostReset_fault s, (regValue_hostReset · s), hostReset_f s, hostReset_sp s,
    hostReset_loaded s, hostReset_params s, hostReset_inputs s, hostReset_replies s⟩

/-! ### Reads and writes of blocks that agree -/

section Agreeing

variable {s t : State} (h : SameBlock s t)
include h

theorem a_eq_of_sameBlock : s.a = t.a := by
  obtain ⟨ha, -⟩ := h
  exact ha

theorem f_eq_of_sameBlock : s.f = t.f := by
  obtain ⟨-, hf, -⟩ := h
  exact hf

theorem carryIn_eq_of_sameBlock : carryIn s = carryIn t := by rw [carryIn, carryIn, f_eq_of_sameBlock h]

theorem fault_eq_of_sameBlock : s.fault = t.fault := by
  obtain ⟨-, -, -, -, -, -, -, -, -, hfault, -⟩ := h
  exact hfault

theorem params_eq_of_sameBlock : s.params = t.params := by
  obtain ⟨-, -, -, -, -, -, -, -, -, -, hparams⟩ := h
  exact hparams

theorem reg8_eq_of_sameBlock (r : Reg7) : reg8 r s = reg8 r t := by
  obtain ⟨ha, -, hb, hc, hd, he, hh, hl, -⟩ := h
  cases r <;> assumption

theorem pair_eq_of_sameBlock (p : Pair) : pair p s = pair p t := by
  obtain ⟨-, -, hb, hc, hd, he, hh, hl, hsp, -⟩ := h
  cases p <;> simp only [pair, *]

theorem sameBlock_setReg8 (r : Reg7) (v : Byte) : SameBlock (setReg8 r v s) (setReg8 r v t) := by
  obtain ⟨ha, hf, hb, hc, hd, he, hh, hl, hsp, hfault, hparams⟩ := h
  cases r <;> simp [SameBlock, setReg8, *]

theorem sameBlock_setPair (p : Pair) (v : Word) : SameBlock (setPair p v s) (setPair p v t) := by
  obtain ⟨ha, hf, hb, hc, hd, he, hh, hl, hsp, hfault, hparams⟩ := h
  cases p <;> simp [SameBlock, setPair, *]

theorem sameBlock_setFlags (v : Byte) : SameBlock (setFlags v s) (setFlags v t) := by
  obtain ⟨ha, -, hrest⟩ := h
  exact ⟨ha, rfl, hrest⟩

theorem sameBlock_putOut8 (r : Reg7) (o : Out8) : SameBlock (putOut8 r o s) (putOut8 r o t) :=
  sameBlock_setFlags (sameBlock_setReg8 h r o.res) o.flags

theorem sameBlock_putOutHl (o : Out16) : SameBlock (putOutHl o s) (putOutHl o t) :=
  sameBlock_setFlags (sameBlock_setPair h .hl o.res) o.flags

/-- The exchange is a write of both pairs. -/
theorem sameBlock_exchangeDeHl : SameBlock (exchangeDeHl s) (exchangeDeHl t) := by
  obtain ⟨ha, hf, hb, hc, hd, he, hh, hl, hrest⟩ := h
  exact ⟨ha, hf, hb, hc, hh, hl, hd, he, hrest⟩

theorem sameBlock_raiseIllegalOpcode (o : Word) : SameBlock (raiseIllegalOpcode o s) (raiseIllegalOpcode o t) := by
  obtain ⟨ha, hf, hb, hc, hd, he, hh, hl, hsp, -, hparams⟩ := h
  exact ⟨ha, hf, hb, hc, hd, he, hh, hl, hsp, rfl, hparams⟩

/-- The policy is a parameter, so both follow the same one. -/
theorem sameBlock_outOfRange (o : Word) : SameBlock (outOfRange o s) (outOfRange o t) := by
  have hparams := params_eq_of_sameBlock h
  cases hpol : t.params.oorPolicy with
  | fault =>
    rw [outOfRange_of_fault hpol, outOfRange_of_fault (hparams ▸ hpol)]
    exact sameBlock_raiseIllegalOpcode h o
  | inert =>
    rw [outOfRange_of_inert hpol, outOfRange_of_inert (hparams ▸ hpol)]
    exact h

/-- A family's operation reads the same values in both blocks; the cases are grouped by the write it makes of them. -/
theorem sameBlock_of_performs {i : Instr} {op : State → State} (hop : Performs i op) : SameBlock (op s) (op t) := by
  have ha := a_eq_of_sameBlock h
  have hf := f_eq_of_sameBlock h
  have hcarry := carryIn_eq_of_sameBlock h
  have hreg := reg8_eq_of_sameBlock h
  have hpair := pair_eq_of_sameBlock h
  cases hop with
  | nop => exact h
  | exDeHl => exact sameBlock_exchangeDeHl h
  | ld | ldImm | res | set =>
    simp only [loadReg, loadImm, resetBitOf, setBitOf, hreg]
    exact sameBlock_setReg8 h _ _
  | cp | bit | scf | ccf =>
    simp only [aluCp, testBitOf, setCarry, complementCarry, ha, hf, hreg]
    exact sameBlock_setFlags h _
  | add | adc | sub | sbc | and | xor | or | neg =>
    simp only [aluAdd, aluAdc, aluSub, aluSbc, aluAnd, aluXor, aluOr, negateA, ha, hcarry, hreg]
    exact sameBlock_putOut8 h _ _
  | inc | dec | daa | cpl | rlca | rrca | rla | rra =>
    simp only [incReg, decReg, decimalAdjust, complementA, rotateA, ha, hf, hcarry, hreg]
    exact sameBlock_putOut8 h _ _
  | rlc | rrc | rl | rr | sla | sra | srl | sll =>
    simp only [rotateReg, hcarry, hreg]
    exact sameBlock_putOut8 h _ _
  | incPair | decPair | ldSpHl | ldPairImm =>
    simp only [incPair, decPair, loadSpHl, loadPairImm, hpair]
    exact sameBlock_setPair h _ _
  | addHl | adcHl | sbcHl =>
    simp only [addHl, adcHl, sbcHl, hf, hcarry, hpair]
    exact sameBlock_putOutHl h _

end Agreeing

/-! ### Executes of blocks that agree -/

/-- Settles O10: the latch and the parameters agree, so both executes stop, or both perform one operation or follow one
policy. -/
theorem executeDependsOnBlockStateAlone : Obligations.ExecuteDependsOnBlockStateAlone := by
  unfold Obligations.ExecuteDependsOnBlockStateAlone
  intro x s s' h
  have hfault := fault_eq_of_sameBlock h
  have hparams := params_eq_of_sameBlock h
  cases hv : s'.fault.valid with
  | true => exact .inl ⟨execute_of_latched x (hfault ▸ hv), execute_of_latched x hv⟩
  | false =>
    have hv₀ : s.fault.valid = false := hfault ▸ hv
    cases hd : decode s'.params x with
    | instr i =>
      obtain ⟨op, hop⟩ := exists_performs i
      exact .inr ⟨op s, op s', execute_of_performs hv₀ (hparams ▸ hd) hop, execute_of_performs hv hd hop,
        sameBlock_of_performs h hop⟩
    | illegalOpcode o =>
      exact .inr ⟨outOfRange o s, outOfRange o s', execute_of_illegal hv₀ (hparams ▸ hd), execute_of_illegal hv hd,
        sameBlock_outOfRange h o⟩

end Sys2Proof.Machine
end
